-- ==== Sys2Proof/Word.lean ====
section
/-! DEFINITION. The word types of RCODEC and its surroundings (00_scope.md R9, R10: bit 0 is the least
significant bit; all words are unsigned unless a rule says signed). -/

namespace Sys2Proof

/-- One byte of a transport transfer, a device address or a register pointer (20_memory.md R30). -/
abbrev Byte := BitVec 8

/-- A ConfigWord or a RawSample (30_encoding.md R50, R57; `WORD_W` of 00_scope.md R6). -/
abbrev Word16 := BitVec 16

/-- A 3-bit field code: ChannelSelector, GainRange or DataRate (00_scope.md R6). -/
abbrev Code3 := BitVec 3

/-- The 1-bit OperatingMode code (30_encoding.md R53). -/
abbrev Code1 := BitVec 1

end Sys2Proof
end

