-- ==== Sys2Proof/Machine/Assoc.lean ====
section
/-! DEFINITION. Data by key, as a list of pairs in one canonical form: keys strictly rising. -/

namespace Sys2Proof.Machine

/-- The entry of a key. -/
def Assoc.get {α : Type} : List (Nat × α) → Nat → Option α
  | [], _ => none
  | (k, v) :: rest, key => if k = key then some v else Assoc.get rest key

/-- Sets the entry of a key and keeps the keys rising. -/
def Assoc.set {α : Type} : List (Nat × α) → Nat → α → List (Nat × α)
  | [], key, v => [(key, v)]
  | (k, u) :: rest, key, v =>
    if key < k then (key, v) :: (k, u) :: rest
    else if key = k then (key, v) :: rest
    else (k, u) :: Assoc.set rest key v

/-- The canonical form: keys strictly rising. -/
def Assoc.sorted {α : Type} : List (Nat × α) → Bool
  | [] => true
  | [_] => true
  | (k, _) :: (k', v') :: rest => decide (k < k') && Assoc.sorted ((k', v') :: rest)

/-- Every entry meets a condition on its key and value. -/
def Assoc.all {α : Type} (p : Nat → α → Bool) (l : List (Nat × α)) : Bool := l.all fun e => p e.1 e.2

/-- The canonical form of memory. A cell nothing has written has no entry and no fixed value (10_state.md
R28; assumption log 8), so no entry can equal what an unlisted address reads as. -/
def Memory.wf (m : List Host.Cell) : Bool := Assoc.sorted m

end Sys2Proof.Machine
end

