-- ==== Sys2Proof/Config.lean ====
section
/-! DEFINITION. What the spec leaves open (00_scope.md R8; 93_implementation_defined.md U2, U6, U8, U10 to
U12). Each is an opaque constant: no proof can learn a value of it, so a theorem holds for every choice.
The choices made at a transport call are functions of the history before it (assumption log 7), and not of the
call itself: DESIGN CHOICE, unsafe (assumption log 27). -/

namespace Sys2Proof.Machine

/-- What happened on a transport (assumption log 12). -/
inductive BusEvent where
  /-- WRITE16: the two bytes in the order sent, and whether the call returned `Ok` (20_memory.md R34). -/
  | write (bus address pointer b0 b1 : Byte) (ok : Bool)
  /-- READ16 that returned `Ok`: the two bytes in the order received (20_memory.md R33). -/
  | read (bus address pointer b0 b1 : Byte)
  /-- READ16 that failed. -/
  | readFailed (bus address pointer : Byte)
  /-- `Wait(t)`: at least `t` seconds were let pass (43_controller.md R126). -/
  | wait (atLeast : Rat)
  deriving DecidableEq, Repr

/-- Everything that has happened to the devices in a run: the traffic and the waits, newest first, and which of
the writes the devices took, by the number of the transport call (a failed write may have been taken,
20_memory.md R40). Every transport call adds an event, so no two calls see the same history. -/
structure History where
  bus   : List BusEvent
  taken : List Nat
  deriving DecidableEq, Repr

end Sys2Proof.Machine

namespace Sys2Proof

/-- XPORT_FAIL (00_scope.md R8, 93_implementation_defined.md U11): whether the next transport call fails. -/
opaque Config.xportFail : Machine.History → Bool

/-- 20_memory.md R40, D27, U8: whether the device takes the word of the next transport call, a failed write. -/
opaque Config.failedWriteLands : Machine.History → Bool

/-- CONV_ORACLE, "any function from history to `u16`" (00_scope.md R8, 10_state.md R26, U12): the sixteen bits
the device puts on the bus in the next transport call, a read. All sixteen count for the conversion register.
For the configuration register only the bits that nothing determines are taken from it: bit 15 and bits 4:0 (U2). -/
opaque Config.convOracle : Machine.History → Word16

/-- 10_state.md R28, 70_reset_and_hazards.md R152, D7, U6: what the byte at a register address holds at the
start of a run. A function of the address, since an unwritten register keeps one value. -/
opaque Config.startByte : Nat → Byte

/-- WAIT_MARGIN (00_scope.md R8, D17, U10): the margin, in seconds, added to the wait; zero or more. -/
opaque Config.waitMargin : NNRat

end Sys2Proof
end

