-- ==== Sys2Proof/Syntax.lean ====
section
/-! DEFINITION. The four closed enumerations of 30_encoding.md R51 to R54, the fifteen operations of R62, and
the form in which the caller hands an operation over. -/

namespace Sys2Proof

/-- ChannelSelector (30_encoding.md R51): positive input against negative input. The names are labels
only. Those of codes 1, 2, 3, 5 and 6 are PRESUMED (G1, D21; assumption log 15). -/
inductive ChannelSelector where
  | ain0Ain1 | ain0Ain3 | ain1Ain3 | ain2Ain3 | ain0Gnd | ain1Gnd | ain2Gnd | ain3Gnd
  deriving DecidableEq, Repr

/-- GainRange (30_encoding.md R52): full-scale millivolts in the name. Codes 5, 6 and 7 carry the same value
and stay distinct as codes (90_conflicts.md C8). -/
inductive GainRange where
  | fsr6144 | fsr4096 | fsr2048 | fsr1024 | fsr512 | fsr256 | fsr256Alias6 | fsr256Alias7
  deriving DecidableEq, Repr

/-- OperatingMode (30_encoding.md R53). -/
inductive OperatingMode where
  | continuous | singleShot
  deriving DecidableEq, Repr

/-- DataRate (30_encoding.md R54): samples per second in the name. -/
inductive DataRate where
  | sps8 | sps16 | sps32 | sps64 | sps128 | sps250 | sps475 | sps860
  deriving DecidableEq, Repr

/-- The four configuration fields that DECODE and READCONFIG return (41_decode.md R85, R91). -/
structure Fields where
  ch   : ChannelSelector
  gain : GainRange
  mode : OperatingMode
  dr   : DataRate
  deriving DecidableEq, Repr

/-- The operations (30_encoding.md R62): one constructor per row of the operation table.
`dev` names the controller an operation acts on (R69: "prefixed by the name of the controller it acts on")
and `bus` the transport (43_controller.md R127); both are one byte (assumption log 4). -/
inductive Instr where
  /-- ENCODE (40_encode.md R75). -/
  | encode (ch : ChannelSelector) (gain : GainRange) (mode : OperatingMode) (dr : DataRate)
  /-- DECODE (41_decode.md R85). -/
  | decode (w : Word16)
  /-- RAW2V (42_scale.md R100). -/
  | raw2v (raw : Word16) (gain : GainRange)
  /-- FSR (42_scale.md R96). -/
  | fsr (gain : GainRange)
  /-- SPS (42_scale.md R97). -/
  | sps (dr : DataRate)
  /-- STROBE (40_encode.md R81). -/
  | strobe (w : Word16)
  /-- CONSTRUCT (43_controller.md R111), binding the name `dev` to the new controller. -/
  | construct (dev bus address : Byte) (ch : ChannelSelector) (gain : GainRange) (mode : OperatingMode) (dr : DataRate)
  /-- WRITECONFIG (43_controller.md R113). -/
  | writeConfig (dev : Byte)
  /-- SAMPLERAW (43_controller.md R115). -/
  | sampleRaw (dev : Byte) (force : Bool)
  /-- SAMPLEVOLTAGE (43_controller.md R118). -/
  | sampleVoltage (dev : Byte) (force : Bool)
  /-- RECONFIGURE (43_controller.md R119). -/
  | reconfigure (dev : Byte) (ch : ChannelSelector) (gain : GainRange) (mode : OperatingMode) (dr : DataRate)
  /-- READCONFIG (43_controller.md R120). -/
  | readConfig (dev : Byte)
  /-- READ16 (20_memory.md R33). -/
  | read16 (bus address pointer : Byte)
  /-- WRITE16 (20_memory.md R34). -/
  | write16 (bus address pointer : Byte) (value : Word16)
  /-- WAIT (43_controller.md R126) of `num / den` seconds. -/
  | wait (num den : BitVec 32)
  deriving DecidableEq, Repr

/-- What selects an operation: the unit whose ports are used, the entry point invoked or the transport
operation called (30_encoding.md R63, the `selector` column of the operation table). There is no opcode
field, so this is a name and not bits. -/
inductive Selector where
  | unitEnc | unitDec | unitScl | unitFsr | unitSps | stepStrobe | entryConstruct | entryWriteConfig
  | entrySampleRaw | entrySampleVoltage | entryReconfigure | entryReadConfig | callRead16 | callWrite16
  | stepWait
  deriving DecidableEq, Repr

/-- One operation as the caller hands it over: the selector and the operand bytes. The byte layout is the
model's own (assumption log 1); a data word the table gives a pattern for comes first, high byte first. -/
structure Request where
  sel   : Selector
  bytes : List Byte
  deriving DecidableEq, Repr

/-- Why a request is no operation. -/
inductive DecodeReject where
  /-- The operand bytes are too few or too many for the selector. -/
  | badLength
  /-- The bits that the table's pattern fixes (30_encoding.md R63, R64) have other values. -/
  | fixedBits
  /-- A byte that carries an enumeration code or a Boolean holds a number outside it. -/
  | badCode
  /-- The duration of WAIT has denominator zero. -/
  | zeroDenominator
  deriving DecidableEq, Repr

/-- The input ports of RCODEC (10_state.md R15). -/
structure PortsIn where
  encCh   : Code3
  encGain : Code3
  encMode : Code1
  encDr   : Code3
  decWord : Word16
  sclRaw  : Word16
  sclGain : Code3
  fsrGain : Code3
  spsDr   : Code3
  deriving DecidableEq, Repr

/-- The output ports of the unit DEC (10_state.md R15). -/
structure DecOut where
  ch   : Code3
  gain : Code3
  mode : Code1
  dr   : Code3
  err  : Code1
  deriving DecidableEq, Repr

/-- The output ports of RCODEC (10_state.md R15). -/
structure PortsOut where
  encWord : Word16
  dec     : DecOut
  sclVout : BitVec 21
  fsrMv   : BitVec 13
  spsVal  : BitVec 10
  deriving DecidableEq, Repr

end Sys2Proof
end

