-- ==== Sys2Proof/Machine/State.lean ====
section
/-! DEFINITION. The state as plain data, the error kinds and results, the reasons a step can stop, and the
state at the start of a run (10_state.md R18, R20, R24, R26 to R28). RCODEC itself has no state (R13). -/

namespace Sys2Proof.Machine

/-- The three error kinds (60_exceptions.md R130): results of operations, not stops of the machine. -/
inductive ErrorKind where
  /-- CONSTRUCT with an address outside the valid set; it carries that address (R131; assumption log 24). -/
  | invalidAddress (a : Byte)
  /-- `DecodeError::UnknownField`: kept in the type, produced by no operation (R132, 41_decode.md R87). -/
  | unknownField
  /-- `TransportError::DeviceUnreachable`: any failure of a transport call (R133). -/
  | deviceUnreachable
  deriving DecidableEq, Repr

/-- The value an operation returns when it succeeds (30_encoding.md R62, column result). -/
inductive Value where
  /-- `Ok(())` of WRITECONFIG, RECONFIGURE and WRITE16; also the return of WAIT, which has no value. -/
  | unit
  /-- A u16: ENCODE, STROBE, READ16, SAMPLERAW. -/
  | word (w : Word16)
  /-- The four fields: DECODE, READCONFIG. -/
  | fields (t : Fields)
  /-- The 21-bit signed voltage in units of 2^-7 mV: RAW2V, SAMPLEVOLTAGE (30_encoding.md R58). -/
  | vout (v : BitVec 21)
  /-- Full-scale millivolts: FSR (30_encoding.md R59). -/
  | millivolts (v : BitVec 13)
  /-- Samples per second: SPS (30_encoding.md R59). -/
  | rate (v : BitVec 10)
  /-- The controller CONSTRUCT made, by its name. -/
  | controller (dev : Byte)
  deriving DecidableEq, Repr

/-- A sum of the value and the error kind (60_exceptions.md R138, 30_encoding.md R67). -/
inductive Result where
  | ok  (v : Value)
  | err (e : ErrorKind)
  deriving DecidableEq, Repr

/-- A controller: the five shadow registers (10_state.md R18), the handle of the transport it was given
(43_controller.md R127) and the ghost flag (10_state.md R27), which no operation reads. -/
structure Controller where
  addr : Byte
  ch   : ChannelSelector
  gain : GainRange
  mode : OperatingMode
  dr   : DataRate
  bus  : Byte
  configured : Bool
  deriving DecidableEq, Repr

/-- The environment's choices for one transport call (00_scope.md R8; 10_state.md R26). -/
structure Draw where
  /-- XPORT_FAIL: the call fails. -/
  fails  : Bool
  /-- 20_memory.md R40: if the call is a write and fails, the device took the word all the same. -/
  landed : Bool
  /-- If the call is a read: the bytes the device puts on the bus, in order (R33). For the configuration
  register only bit 15 and bits 4:0 of them are used (U2). -/
  b0 : Byte
  b1 : Byte
  deriving DecidableEq, Repr

/-- Reasons to stop with a fault. There are none: "No operation is fatal to the process"
(60_exceptions.md R140). Every failure the spec describes is a result (`ErrorKind`). -/
inductive Fault
  deriving DecidableEq, Repr

/-- Reasons to give no meaning. All are safe: the machine stops where nothing may be claimed. -/
inductive Refusal where
  /-- Raised by `exec` for an operation that has no meaning yet. Safe. -/
  | notModelled (mnemonic : String)
  /-- Raised by `step`: the request is no operation (assumption log 1). Safe. -/
  | badRequest (why : DecodeReject)
  /-- Raised by the controller operations other than CONSTRUCT on a name no CONSTRUCT has bound: "No
  operation other than CONSTRUCT may be applied" (10_state.md R20). Safe. -/
  | noController
  /-- Raised by the transport: a device address outside the valid set (20_memory.md R31, D24, U7). Safe. -/
  | deviceAddress
  /-- Raised by the transport: a pointer other than 0x00 and 0x01 (20_memory.md R32, D24, U7). Safe. -/
  | registerPointer
  /-- Raised by the transport: a write to pointer 0x00 (20_memory.md R32, D24, U7). Safe. -/
  | conversionWrite
  deriving DecidableEq, Repr

/-- The whole state. Lists of pairs are in the one canonical form of `Machine/Assoc.lean`. -/
structure State where
  /-- The controllers that exist, by name (10_state.md R18, R20; 60_exceptions.md R143). -/
  controllers : List (Nat × Controller)
  /-- The bytes of the devices' configuration registers that have been written (10_state.md R24). -/
  mem : List Host.Cell
  /-- Per device, the single-shot conversions that writes have started (20_memory.md R38; ghost). -/
  triggers : List (Nat × Nat)
  /-- The caller's operations, first to last (10_state.md R21). -/
  requests : List Request
  /-- The test bench's scripted answers to the next transport calls (10_state.md R26). -/
  stub : List Draw
  /-- The number of transport calls made. -/
  calls : Nat
  /-- Which transport calls were writes that a device took, by their number, newest first (20_memory.md R40;
  assumption log 7). -/
  taken : List Nat
  /-- What has happened on the transports, newest first. -/
  bus : List BusEvent
  /-- What the last operation returned to its caller (60_exceptions.md R137). -/
  result : Option Result
  deriving DecidableEq, Repr

/-- The start of a run (10_state.md R28): no controller exists, no device register has been written, and the
model's own fields are empty (assumption log 3, 7, 11 to 13). -/
def State.reset : State where
  controllers := []
  mem := []
  triggers := []
  requests := []
  stub := []
  calls := 0
  taken := []
  bus := []
  result := none

end Sys2Proof.Machine
end

