-- ==== Sys2Proof/Machine/Flags.lean ====
section
/-! DEFINITION. Status outputs. The hardware has no status flags and no condition codes (10_state.md R22):
what stands here is the sign of a sample, which RAW2V consumes, the constant port `dec_err`, and the
port-level numbers of the error kinds. -/

namespace Sys2Proof.Machine

/-- The sign of a RawSample is its bit 15 (30_encoding.md R57). -/
def signBit (raw : Word16) : Bool := raw.getLsbD 15

/-- `dec_err` is the constant 0: no word makes DECODE fail (41_decode.md R87, D23). -/
def decErr (_w : Word16) : Code1 := 0

/-- The port-level number of an error kind (30_encoding.md R67, D6). -/
def ErrorKind.portCode : ErrorKind → BitVec 2
  | .invalidAddress _ => 1
  | .unknownField => 2
  | .deviceUnreachable => 3

/-- The port-level number of a result: 0 is no error (30_encoding.md R67, D6). -/
def Result.portCode : Result → BitVec 2
  | .ok _ => 0
  | .err e => e.portCode

end Sys2Proof.Machine
end

