-- ==== Sys2Proof/Machine/Operands.lean ====
section
/-! DEFINITION. Operand forms: the codes of the four enumerations (30_encoding.md R51 to R54), insertion of
fields into the ConfigWord and extraction from it (R60, R61), the two bytes of a word on the transport (R68),
device addresses and register pointers (20_memory.md R31, R32). -/

namespace Sys2Proof

/-- The code of a channel (30_encoding.md R51). -/
def ChannelSelector.code : ChannelSelector → Code3
  | .ain0Ain1 => 0 | .ain0Ain3 => 1 | .ain1Ain3 => 2 | .ain2Ain3 => 3
  | .ain0Gnd => 4 | .ain1Gnd => 5 | .ain2Gnd => 6 | .ain3Gnd => 7

/-- The channel of a code: all eight codes are defined (30_encoding.md R51, R72). -/
def ChannelSelector.ofCode (c : Code3) : ChannelSelector :=
  match c.toFin with
  | 0 => .ain0Ain1 | 1 => .ain0Ain3 | 2 => .ain1Ain3 | 3 => .ain2Ain3
  | 4 => .ain0Gnd | 5 => .ain1Gnd | 6 => .ain2Gnd | 7 => .ain3Gnd

/-- The code of a gain range (30_encoding.md R52). -/
def GainRange.code : GainRange → Code3
  | .fsr6144 => 0 | .fsr4096 => 1 | .fsr2048 => 2 | .fsr1024 => 3
  | .fsr512 => 4 | .fsr256 => 5 | .fsr256Alias6 => 6 | .fsr256Alias7 => 7

/-- The gain range of a code (30_encoding.md R52, R72). -/
def GainRange.ofCode (c : Code3) : GainRange :=
  match c.toFin with
  | 0 => .fsr6144 | 1 => .fsr4096 | 2 => .fsr2048 | 3 => .fsr1024
  | 4 => .fsr512 | 5 => .fsr256 | 6 => .fsr256Alias6 | 7 => .fsr256Alias7

/-- The code of a mode: Continuous 0, SingleShot 1 (30_encoding.md R53, D8; assumption log 14). -/
def OperatingMode.code : OperatingMode → Code1
  | .continuous => 0 | .singleShot => 1

/-- The mode of a code (30_encoding.md R53). -/
def OperatingMode.ofCode (c : Code1) : OperatingMode :=
  match c.toFin with
  | 0 => .continuous | 1 => .singleShot

/-- The code of a data rate (30_encoding.md R54). -/
def DataRate.code : DataRate → Code3
  | .sps8 => 0 | .sps16 => 1 | .sps32 => 2 | .sps64 => 3
  | .sps128 => 4 | .sps250 => 5 | .sps475 => 6 | .sps860 => 7

/-- The data rate of a code (30_encoding.md R54, R72). -/
def DataRate.ofCode (c : Code3) : DataRate :=
  match c.toFin with
  | 0 => .sps8 | 1 => .sps16 | 2 => .sps32 | 3 => .sps64
  | 4 => .sps128 | 5 => .sps250 | 6 => .sps475 | 7 => .sps860

/-- The decode masks (00_scope.md R6, 30_encoding.md R61). -/
def chMask : Word16 := 0x7000
def gainMask : Word16 := 0x0E00
def modeMask : Word16 := 0x0100
def drMask : Word16 := 0x00E0

/-- `LOW_FIXED`: the comparator-disabled tail in bits 4:0 (30_encoding.md R55, 90_conflicts.md C1). -/
def lowFixed : Word16 := 0b00011

/-- `STROBE_BIT`: bit 15 (30_encoding.md R56). -/
def strobeBit : Word16 := 0x8000

/-- The bits that the patterns of ENCODE, STROBE, WRITECONFIG and RECONFIGURE fix: 15 and 4:0 (30_encoding.md R64). -/
def fixedMask : Word16 := 0x801F

/-- The bits DECODE examines, the union of the four masks (41_decode.md R86). -/
def fieldMask : Word16 := chMask ||| gainMask ||| modeMask ||| drMask

/-- Field insertion, the packing expression of the source (30_encoding.md R60, 40_encode.md R75). -/
def insertFields (ch gain : Code3) (mode : Code1) (dr : Code3) : Word16 :=
  0 ||| (ch.setWidth 16 <<< 12) ||| (gain.setWidth 16 <<< 9) ||| (mode.setWidth 16 <<< 8)
    ||| (dr.setWidth 16 <<< 5) ||| lowFixed

/-- Field extraction by mask and shift (30_encoding.md R61, 41_decode.md R85). -/
def extractCh (w : Word16) : Code3 := ((w &&& chMask) >>> 12).setWidth 3
def extractGain (w : Word16) : Code3 := ((w &&& gainMask) >>> 9).setWidth 3
def extractMode (w : Word16) : Code1 := ((w &&& modeMask) >>> 8).setWidth 1
def extractDr (w : Word16) : Code3 := ((w &&& drMask) >>> 5).setWidth 3

/-- The first byte of a word on the transport: `v[15:8]` (20_memory.md R34, 30_encoding.md R68). -/
def hiByte (v : Word16) : Byte := (v >>> 8).setWidth 8

/-- The second byte of a word on the transport: `v[7:0]` (20_memory.md R34, 30_encoding.md R68). -/
def loByte (v : Word16) : Byte := v.setWidth 8

/-- `(b0 << 8) | b1`: the word of two bytes in the order they arrive (20_memory.md R33, 30_encoding.md R68). -/
def joinBytes (b0 b1 : Byte) : Word16 := (b0.setWidth 16 <<< 8) ||| b1.setWidth 16

/-- The four strap-pin-selectable device addresses (20_memory.md R31). -/
def validAddress (a : Byte) : Bool := a == 0x48 || a == 0x49 || a == 0x4A || a == 0x4B

/-- `PTR_CONV`, the pointer of the conversion register (20_memory.md R32). -/
def ptrConversion : Byte := 0x00

/-- `PTR_CFG`, the pointer of the configuration register (20_memory.md R32). -/
def ptrConfig : Byte := 0x01

end Sys2Proof
end

