-- ==== Sys2Proof/Machine/Ops.lean ====
section
/-! DEFINITION. The shared operations: returning a value and raising an error, the composition of
operations that can fail, the device's configuration register, the two transport calls, the wait, and
access to controllers. -/

namespace Sys2Proof.Machine

/-! ### Returning and raising -/

/-- The operation returns `Ok(v)` to its caller. -/
def State.returns (s : State) (v : Value) : State := { s with result := some (.ok v) }

/-- `raise E` seen by the caller (60_exceptions.md R137): the outermost operation returns `Err(E)`; nothing is
saved, nothing already written is rolled back. This is the one place where an error is taken. There is no
return operation beside it: the next operation simply runs (R139). -/
def State.raises (s : State) (e : ErrorKind) : State := { s with result := some (.err e) }

/-- How a step inside an operation ends: with the state so far and a value or an error kind, or with no
meaning at all. -/
abbrev Reply (α : Type) := Host.Outcome (State × Except ErrorKind α) Fault Refusal

/-- The next step of an operation runs only after success; an error ends the operation and every operation
that called it, and passes unchanged (60_exceptions.md R133, R136, R137). -/
def Reply.andThen {α β : Type} (r : Reply α) (f : α → State → Reply β) : Reply β :=
  match r with
  | .next (s, .ok a) => f a s
  | .next (s, .error e) => .next (s, .error e)
  | .fault x => .fault x
  | .refused x => .refused x

/-- The end of the outermost operation: its caller gets the value or the error kind. -/
def Reply.finish {α : Type} (r : Reply α) (value : α → Value) : Host.Outcome State Fault Refusal :=
  match r with
  | .next (s, .ok a) => .next (s.returns (value a))
  | .next (s, .error e) => .next (s.raises e)
  | .fault x => .fault x
  | .refused x => .refused x

/-! ### Memory: the devices' configuration registers -/

/-- The address of a register's high byte: transport, device address and pointer, two bytes a register. "byte
at lower address is the high byte" (20_memory.md R30, R33; assumption log 23). -/
def regKey (bus a p : Byte) : Nat := ((bus.toNat * 256 + a.toNat) * 256 + p.toNat) * 2

/-- Reads one byte. A byte nothing has written holds the free value of its address (10_state.md R28, D7, U6). -/
def State.readByte (s : State) (key : Nat) : Byte := (Assoc.get s.mem key).getD (Config.startByte key)

/-- Writes one byte. -/
def State.writeByte (s : State) (key : Nat) (b : Byte) : State := { s with mem := Assoc.set s.mem key b }

/-- The word a device's configuration register holds (10_state.md R24). -/
def State.configReg (s : State) (bus a : Byte) : Word16 :=
  joinBytes (s.readByte (regKey bus a ptrConfig)) (s.readByte (regKey bus a ptrConfig + 1))

/-- The key of a device among the trigger counts. -/
def deviceKey (bus a : Byte) : Nat := bus.toNat * 256 + a.toNat

/-- How many single-shot conversions writes have started on a device. -/
def State.triggerCount (s : State) (bus a : Byte) : Nat := (Assoc.get s.triggers (deviceKey bus a)).getD 0

/-- A written word starts a conversion if bit 15 is set and its mode is SingleShot (20_memory.md R38). -/
def startsConversion (w : Word16) : Bool :=
  w.getLsbD 15 && decide (OperatingMode.ofCode (extractMode w) = .singleShot)

/-- The count of a device after it took a word. -/
def State.trigger (s : State) (bus a : Byte) (w : Word16) : State :=
  if startsConversion w then
    { s with triggers := Assoc.set s.triggers (deviceKey bus a) (s.triggerCount bus a + 1) }
  else s

/-- The transport call just made was a write that a device took. -/
def State.noteTaken (s : State) : State := { s with taken := s.calls :: s.taken }

/-- The device takes a written word: its configuration register holds it, and the strobe has its effect
(20_memory.md R34, R38). -/
def State.deviceTakes (s : State) (bus a : Byte) (w : Word16) : State :=
  ((s.noteTaken.writeByte (regKey bus a ptrConfig) (hiByte w)).writeByte (regKey bus a ptrConfig + 1)
    (loByte w)).trigger bus a w

/-! ### The environment -/

/-- What has happened so far (00_scope.md R8, "history"). -/
def State.history (s : State) : History := ⟨s.bus, s.taken⟩

/-- The environment's choices for the next transport call: the test bench's, or the open parameters'
(00_scope.md R8; 10_state.md R26; assumption log 7). DESIGN CHOICE, unsafe (assumption log 27): R8 does not define
"history", and here it ends before the call, so the choices do not depend on the call itself (its transport,
device, pointer, direction or word). -/
def State.draw (s : State) : Draw :=
  match s.stub with
  | d :: _ => d
  | [] => ⟨Config.xportFail s.history, Config.failedWriteLands s.history,
           hiByte (Config.convOracle s.history), loByte (Config.convOracle s.history)⟩

/-- One more transport call has been made. -/
def State.spend (s : State) : State := { s with stub := s.stub.tail, calls := s.calls + 1 }

/-- An event on the transports. -/
def State.log (s : State) (e : BusEvent) : State := { s with bus := e :: s.bus }

/-- `Wait(t)` (43_controller.md R126): no hardware state changes. -/
def State.waits (s : State) (t : Rat) : State := s.log (.wait t)

/-! ### The transport calls -/

/-- Which reads the transport gives no meaning to (20_memory.md R31, R32, D24). -/
def readRefusal (a p : Byte) : Option Refusal :=
  if validAddress a then
    if p = ptrConversion ∨ p = ptrConfig then none else some .registerPointer
  else some .deviceAddress

/-- Which writes the transport gives no meaning to (20_memory.md R31, R32, D24). -/
def writeRefusal (a p : Byte) : Option Refusal :=
  if validAddress a then
    if p = ptrConfig then none else if p = ptrConversion then some .conversionWrite else some .registerPointer
  else some .deviceAddress

/-- The two bytes a device delivers. From the conversion register: the draw (10_state.md R26). From the
configuration register: the register, but for bit 15 and bits 4:0, which are any value (U2). -/
def State.delivered (s : State) (bus a p : Byte) (d : Draw) : Byte × Byte :=
  if p = ptrConversion then (d.b0, d.b1)
  else
    let w := (s.configReg bus a &&& fieldMask) ||| (joinBytes d.b0 d.b1 &&& ~~~fieldMask)
    (hiByte w, loByte w)

/-- `MemRead((a, p), 2)`, the transport's `read16` (20_memory.md R33): one call, the bytes combined
most significant first, or DeviceUnreachable. No effect on the device (R39). -/
def State.read16Call (s : State) (bus a p : Byte) : Reply Word16 :=
  match readRefusal a p with
  | some r => .refused r
  | none =>
    if s.draw.fails then .next (s.spend.log (.readFailed bus a p), .error .deviceUnreachable)
    else
      let b := s.delivered bus a p s.draw
      .next (s.spend.log (.read bus a p b.1 b.2), .ok (joinBytes b.1 b.2))

/-- `MemWrite((a, p), 2, v)`, the transport's `write16` (20_memory.md R34): one call, high byte first. After a
failure the device has taken the word or not, by the draw (R40). -/
def State.write16Call (s : State) (bus a p : Byte) (v : Word16) : Reply Unit :=
  match writeRefusal a p with
  | some r => .refused r
  | none =>
    let s' := s.spend.log (.write bus a p (hiByte v) (loByte v) (!s.draw.fails))
    if s.draw.fails then
      .next (if s.draw.landed then s'.deviceTakes bus a v else s', .error .deviceUnreachable)
    else .next (s'.deviceTakes bus a v, .ok ())

/-! ### Controllers -/

/-- The controller of a name. -/
def State.controllerOf (s : State) (dev : Byte) : Option Controller := Assoc.get s.controllers dev.toNat

/-- Writes the registers of a controller. -/
def State.setController (s : State) (dev : Byte) (c : Controller) : State :=
  { s with controllers := Assoc.set s.controllers dev.toNat c }

/-- The four configuration fields of the shadow registers. -/
def Controller.fields (c : Controller) : Fields := ⟨c.ch, c.gain, c.mode, c.dr⟩

/-- Runs a step on the controller of a name; without one, "No operation other than CONSTRUCT may be applied"
(10_state.md R20). -/
def State.withController {α : Type} (s : State) (dev : Byte) (f : Controller → Reply α) : Reply α :=
  match s.controllerOf dev with
  | some c => f c
  | none => .refused .noController

/-- The ghost flag after a WRITECONFIG that returned `Ok` (10_state.md R27). -/
def State.markConfigured (s : State) (dev : Byte) : State :=
  match s.controllerOf dev with
  | some c => s.setController dev { c with configured := true }
  | none => s

end Sys2Proof.Machine
end

