-- ==== Sys2Proof/Machine/Codec.lean ====
section
/-! DEFINITION. The encoder, the strobe and the decoder (40_encode.md, 41_decode.md). -/

namespace Sys2Proof.Machine

/-- The unit ENC (40_encode.md R75; ports of 10_state.md R15). -/
def encUnit (ch gain : Code3) (mode : Code1) (dr : Code3) : Word16 := insertFields ch gain mode dr

/-- The unit DEC (41_decode.md R85; ports of 10_state.md R15). -/
def decUnit (w : Word16) : DecOut := ⟨extractCh w, extractGain w, extractMode w, extractDr w, decErr w⟩

/-- ENCODE on the enumerations (40_encode.md R75). -/
def encodeWord (t : Fields) : Word16 := encUnit t.ch.code t.gain.code t.mode.code t.dr.code

/-- DECODE to the enumerations (41_decode.md R85). Total: all codes are defined (R87). -/
def decodeWord (w : Word16) : Fields :=
  ⟨.ofCode (decUnit w).ch, .ofCode (decUnit w).gain, .ofCode (decUnit w).mode, .ofCode (decUnit w).dr⟩

/-- STROBE: sets bit 15 and leaves bits 14:0 (40_encode.md R81). -/
def strobeWord (w : Word16) : Word16 := w ||| strobeBit

/-- ENCODE (40_encode.md R75): no state read or written, no failure (R78). -/
def execEncode (ch : ChannelSelector) (gain : GainRange) (mode : OperatingMode) (dr : DataRate) (s : State) :
    Host.Outcome State Fault Refusal :=
  .next (s.returns (.word (encodeWord ⟨ch, gain, mode, dr⟩)))

/-- DECODE (41_decode.md R85): any word, no failure (R87). -/
def execDecode (w : Word16) (s : State) : Host.Outcome State Fault Refusal :=
  .next (s.returns (.fields (decodeWord w)))

/-- STROBE (40_encode.md R81). -/
def execStrobe (w : Word16) (s : State) : Host.Outcome State Fault Refusal :=
  .next (s.returns (.word (strobeWord w)))

end Sys2Proof.Machine
end

