-- ==== Sys2Proof/Machine/Scale.lean ====
section
/-! DEFINITION. The two's-complement scaler and the two lookups (42_scale.md). -/

namespace Sys2Proof.Machine

/-- The two's-complement reading: `raw - 65536` if the top bit is set, else `raw` (42_scale.md R95). -/
def s16 (raw : Word16) : Int := if signBit raw then (raw.toNat : Int) - 65536 else (raw.toNat : Int)

/-- The unit FSR: full-scale millivolts of a gain code (42_scale.md R96; the table of 10_state.md R14). -/
def fsrUnit (gain : Code3) : BitVec 13 :=
  match gain.toFin with
  | 0 => 6144 | 1 => 4096 | 2 => 2048 | 3 => 1024 | 4 => 512 | 5 => 256 | 6 => 256 | 7 => 256

/-- The unit SPS: samples per second of a data-rate code (42_scale.md R97; the table of 10_state.md R14). -/
def spsUnit (dr : Code3) : BitVec 10 :=
  match dr.toFin with
  | 0 => 8 | 1 => 16 | 2 => 32 | 3 => 64 | 4 => 128 | 5 => 250 | 6 => 475 | 7 => 860

/-- The exact signed product `s16(raw) * FSR(gain)` in millivolt counts (42_scale.md R100, R107). -/
def product (raw : Word16) (gain : Code3) : Int := s16 raw * ((fsrUnit gain).toNat : Int)

/-- `SCALE_SHIFT` (00_scope.md R7). -/
def scaleShift : Nat := 8

/-- The unit SCL: the product shifted right by `SCALE_SHIFT`, arithmetically, in 21 bits (42_scale.md R100). -/
def sclUnit (raw : Word16) (gain : Code3) : BitVec 21 := BitVec.ofInt 21 (product raw gain >>> scaleShift)

/-- RAW2V on the enumeration. -/
def raw2vOf (raw : Word16) (gain : GainRange) : BitVec 21 := sclUnit raw gain.code

/-- `samplesPerSecond()` as a number. -/
def spsOf (dr : DataRate) : Nat := (spsUnit dr.code).toNat

/-- `fullScaleVolts()`: the millivolt value over 1000 (42_scale.md R96). -/
def fsrVolts (gain : GainRange) : Rat := ((fsrUnit gain.code).toNat : Rat) / 1000

/-- The real-valued definition of the voltage, in volts: `s16(raw) / 32768 * FSR_V[gain]` (42_scale.md R98, R99). -/
def voltage (raw : Word16) (gain : GainRange) : Rat := (s16 raw : Rat) / 32768 * fsrVolts gain

/-- The volts that a VOUT stands for (42_scale.md R101, 30_encoding.md R58). -/
def voltsOf (v : Int) : Rat := (v : Rat) / 128000

/-- The conversion period `1/SPS` in seconds, exactly (30_encoding.md R54, 70_reset_and_hazards.md R157). -/
def minWait (dr : DataRate) : Rat := 1 / (spsOf dr : Rat)

/-- The same in whole microseconds, rounded up (70_reset_and_hazards.md R157). -/
def minWaitMicros (dr : DataRate) : Nat := (1000000 + spsOf dr - 1) / spsOf dr

/-- RAW2V (42_scale.md R100): no state, no failure. -/
def execRaw2v (raw : Word16) (gain : GainRange) (s : State) : Host.Outcome State Fault Refusal :=
  .next (s.returns (.vout (raw2vOf raw gain)))

/-- FSR (42_scale.md R96). -/
def execFsr (gain : GainRange) (s : State) : Host.Outcome State Fault Refusal :=
  .next (s.returns (.millivolts (fsrUnit gain.code)))

/-- SPS (42_scale.md R97). -/
def execSps (dr : DataRate) (s : State) : Host.Outcome State Fault Refusal :=
  .next (s.returns (.rate (spsUnit dr.code)))

end Sys2Proof.Machine
end

