-- ==== Sys2Proof/Machine/Controller.lean ====
section
/-! DEFINITION. The controller's operations (43_controller.md). -/

namespace Sys2Proof.Machine

/-! ### The operations as others call them -/

/-- WRITECONFIG (43_controller.md R113): ENCODE of the shadow registers, STROBE, WRITE16 to pointer 0x01. No
shadow register changes, whether the write fails or not (R114). -/
def State.writeConfigCall (s : State) (dev : Byte) : Reply Unit :=
  s.withController dev fun c =>
    (s.write16Call c.bus c.addr ptrConfig (strobeWord (encodeWord c.fields))).andThen fun _ s' =>
      .next (s'.markConfigured dev, .ok ())

/-- The forced first half of SAMPLERAW (43_controller.md R115): WRITECONFIG and, if it succeeds, the wait of
`1/SPS(x[DR]) + WAIT_MARGIN` seconds (R126, 70_reset_and_hazards.md R156). -/
def State.refreshCall (s : State) (dev : Byte) (c : Controller) : Reply Unit :=
  (s.writeConfigCall dev).andThen fun _ s' =>
    .next (s'.waits (minWait c.dr + (Config.waitMargin : Rat)), .ok ())

/-- SAMPLERAW (43_controller.md R115). `force` alone decides whether the configuration is written; `MODE` is
not tested (R122). Exactly one read, of pointer 0x00 (R117); the word is used as it is. -/
def State.sampleRawCall (s : State) (dev : Byte) (force : Bool) : Reply Word16 :=
  s.withController dev fun c =>
    Reply.andThen (if force then s.refreshCall dev c else .next (s, .ok ())) fun _ s' =>
      s'.read16Call c.bus c.addr ptrConversion

/-- SAMPLEVOLTAGE (43_controller.md R118): SAMPLERAW once, then RAW2V with the stored gain. -/
def State.sampleVoltageCall (s : State) (dev : Byte) (force : Bool) : Reply (BitVec 21) :=
  s.withController dev fun c =>
    (s.sampleRawCall dev force).andThen fun raw s' => .next (s', .ok (raw2vOf raw c.gain))

/-- READCONFIG (43_controller.md R120): READ16 of pointer 0x01, then DECODE; no shadow register changes. -/
def State.readConfigCall (s : State) (dev : Byte) : Reply Fields :=
  s.withController dev fun c =>
    (s.read16Call c.bus c.addr ptrConfig).andThen fun w s' => .next (s', .ok (decodeWord w))

/-! ### The meanings -/

/-- CONSTRUCT (43_controller.md R111): the address check, then the shadow registers; no transport call (R112). -/
def execConstruct (dev bus a : Byte) (ch : ChannelSelector) (gain : GainRange) (mode : OperatingMode) (dr : DataRate)
    (s : State) : Host.Outcome State Fault Refusal :=
  if validAddress a then
    .next ((s.setController dev ⟨a, ch, gain, mode, dr, bus, false⟩).returns (.controller dev))
  else .next (s.raises (.invalidAddress a))

/-- WRITECONFIG (43_controller.md R113). -/
def execWriteConfig (dev : Byte) (s : State) : Host.Outcome State Fault Refusal :=
  (s.writeConfigCall dev).finish fun _ => .unit

/-- SAMPLERAW (43_controller.md R115). -/
def execSampleRaw (dev : Byte) (force : Bool) (s : State) : Host.Outcome State Fault Refusal :=
  (s.sampleRawCall dev force).finish .word

/-- SAMPLEVOLTAGE (43_controller.md R118). -/
def execSampleVoltage (dev : Byte) (force : Bool) (s : State) : Host.Outcome State Fault Refusal :=
  (s.sampleVoltageCall dev force).finish .vout

/-- RECONFIGURE (43_controller.md R119): the four shadow registers, then WRITECONFIG. The new values stay
whatever the write does (R114); address, transport and ghost flag are not written by the first half. -/
def execReconfigure (dev : Byte) (ch : ChannelSelector) (gain : GainRange) (mode : OperatingMode) (dr : DataRate)
    (s : State) : Host.Outcome State Fault Refusal :=
  Reply.finish
    (s.withController dev fun c =>
      (s.setController dev { c with ch := ch, gain := gain, mode := mode, dr := dr }).writeConfigCall dev)
    fun _ => .unit

/-- READCONFIG (43_controller.md R120). -/
def execReadConfig (dev : Byte) (s : State) : Host.Outcome State Fault Refusal :=
  (s.readConfigCall dev).finish .fields

/-- WAIT (43_controller.md R126): at least `num / den` seconds pass; no hardware state changes. -/
def execWait (num den : BitVec 32) (s : State) : Host.Outcome State Fault Refusal :=
  .next ((s.waits ((num.toNat : Rat) / (den.toNat : Rat))).returns .unit)

end Sys2Proof.Machine
end

