-- ==== Sys2Proof/Machine/Transport.lean ====
section
/-! DEFINITION. The transport operations called directly (20_memory.md R33, R34). -/

namespace Sys2Proof.Machine

/-- READ16 (20_memory.md R33). -/
def execRead16 (bus a p : Byte) (s : State) : Host.Outcome State Fault Refusal :=
  (s.read16Call bus a p).finish .word

/-- WRITE16 (20_memory.md R34). -/
def execWrite16 (bus a p : Byte) (v : Word16) (s : State) : Host.Outcome State Fault Refusal :=
  (s.write16Call bus a p v).finish fun _ => .unit

end Sys2Proof.Machine
end

