-- ==== Sys2Proof/Machine/Dispatch.lean ====
section
/-! DEFINITION. One arm per operation of 30_encoding.md R62. -/

namespace Sys2Proof.Machine

def exec (i : Instr) (s : State) : Host.Outcome State Fault Refusal :=
  match i with
  | .encode ch gain mode dr => Sys2Proof.Machine.execEncode ch gain mode dr s
  | .decode w => Sys2Proof.Machine.execDecode w s
  | .raw2v raw gain => Sys2Proof.Machine.execRaw2v raw gain s
  | .fsr gain => Sys2Proof.Machine.execFsr gain s
  | .sps dr => Sys2Proof.Machine.execSps dr s
  | .strobe w => Sys2Proof.Machine.execStrobe w s
  | .construct dev bus address ch gain mode dr => Sys2Proof.Machine.execConstruct dev bus address ch gain mode dr s
  | .writeConfig dev => Sys2Proof.Machine.execWriteConfig dev s
  | .sampleRaw dev force => Sys2Proof.Machine.execSampleRaw dev force s
  | .sampleVoltage dev force => Sys2Proof.Machine.execSampleVoltage dev force s
  | .reconfigure dev ch gain mode dr => Sys2Proof.Machine.execReconfigure dev ch gain mode dr s
  | .readConfig dev => Sys2Proof.Machine.execReadConfig dev s
  | .read16 bus address pointer => Sys2Proof.Machine.execRead16 bus address pointer s
  | .write16 bus address pointer value => Sys2Proof.Machine.execWrite16 bus address pointer value s
  | .wait num den => Sys2Proof.Machine.execWait num den s

end Sys2Proof.Machine
end

