-- ==== Sys2Proof/WellFormed.lean ====
section
/-! DEFINITION. Which operations are well formed. The enumerations are closed types, so "no invalid
combination is representable" (30_encoding.md R66, R72); a device address outside the valid set is an
operand that CONSTRUCT answers with an error (43_controller.md R111), not an ill-formed one. What is left is
the duration of WAIT, a fraction in the model (assumption log 16). -/

namespace Sys2Proof

/-- The operation can be written down in the spec's notation (30_encoding.md R69). -/
def Instr.wellFormed : Instr → Bool
  | .encode _ _ _ _ => true
  | .decode _ => true
  | .raw2v _ _ => true
  | .fsr _ => true
  | .sps _ => true
  | .strobe _ => true
  | .construct _ _ _ _ _ _ _ => true
  | .writeConfig _ => true
  | .sampleRaw _ _ => true
  | .sampleVoltage _ _ => true
  | .reconfigure _ _ _ _ _ => true
  | .readConfig _ => true
  | .read16 _ _ _ => true
  | .write16 _ _ _ _ => true
  | .wait _ den => den != 0

end Sys2Proof
end

