-- ==== Sys2Proof/Decode.lean ====
section
/-! DEFINITION. Requests to operations and back. The hardware has no opcode field (30_encoding.md R63), so an
operation is read from its selector and its operand bytes; where spec/opcode_table.json gives a row a
data-word pattern that carries operands, that word comes first, high byte first (R68), and the operands the
word does not carry follow, one byte each. The layout is the model's own (assumption log 1). -/

namespace Sys2Proof

/-- A 3-bit code in a byte of its own. -/
def code3OfByte (b : Byte) : Except DecodeReject Code3 :=
  if b.toNat < 8 then .ok (b.setWidth 3) else .error .badCode

/-- A 1-bit code or a Boolean in a byte of its own. -/
def code1OfByte (b : Byte) : Except DecodeReject Code1 :=
  if b.toNat < 2 then .ok (b.setWidth 1) else .error .badCode

/-- ENCODE: the pattern `0cccgggmddd00011` (30_encoding.md R63, R64). -/
def decodeEncode (w : Word16) : Except DecodeReject Instr :=
  if w &&& fixedMask = lowFixed then
    .ok (.encode (.ofCode (extractCh w)) (.ofCode (extractGain w)) (.ofCode (extractMode w)) (.ofCode (extractDr w)))
  else .error .fixedBits

/-- RECONFIGURE: the pattern `1cccgggmddd00011`, then the controller's name. -/
def decodeReconfigure (w : Word16) (dev : Byte) : Except DecodeReject Instr :=
  if w &&& fixedMask = strobeBit ||| lowFixed then
    .ok (.reconfigure dev (.ofCode (extractCh w)) (.ofCode (extractGain w)) (.ofCode (extractMode w)) (.ofCode (extractDr w)))
  else .error .fixedBits

/-- RAW2V: the pattern `svvvvvvvvvvvvvvv`, then the gain code. -/
def decodeRaw2v (w : Word16) (g : Byte) : Except DecodeReject Instr :=
  match code3OfByte g with
  | .ok c => .ok (.raw2v w (.ofCode c))
  | .error e => .error e

/-- FSR: the pattern `ggg` in one byte. -/
def decodeFsr (g : Byte) : Except DecodeReject Instr :=
  match code3OfByte g with
  | .ok c => .ok (.fsr (.ofCode c))
  | .error e => .error e

/-- SPS: the pattern `ddd` in one byte. -/
def decodeSps (d : Byte) : Except DecodeReject Instr :=
  match code3OfByte d with
  | .ok c => .ok (.sps (.ofCode c))
  | .error e => .error e

/-- CONSTRUCT: address, four codes, transport, name. The address is any byte: CONSTRUCT itself answers for it. -/
def decodeConstruct (a c g m d bus dev : Byte) : Except DecodeReject Instr :=
  match code3OfByte c, code3OfByte g, code1OfByte m, code3OfByte d with
  | .ok c, .ok g, .ok m, .ok d => .ok (.construct dev bus a (.ofCode c) (.ofCode g) (.ofCode m) (.ofCode d))
  | .error e, _, _, _ => .error e
  | _, .error e, _, _ => .error e
  | _, _, .error e, _ => .error e
  | _, _, _, .error e => .error e

/-- SAMPLERAW and SAMPLEVOLTAGE: the Boolean `force` as 0 or 1, then the name. -/
def decodeForce (f : Byte) : Except DecodeReject Bool :=
  match code1OfByte f with
  | .ok c => .ok (c == 1)
  | .error e => .error e

def decodeSampleRaw (f dev : Byte) : Except DecodeReject Instr :=
  match decodeForce f with
  | .ok force => .ok (.sampleRaw dev force)
  | .error e => .error e

def decodeSampleVoltage (f dev : Byte) : Except DecodeReject Instr :=
  match decodeForce f with
  | .ok force => .ok (.sampleVoltage dev force)
  | .error e => .error e

/-- Four bytes, most significant first, as one number. -/
def joinFour (b3 b2 b1 b0 : Byte) : BitVec 32 := b3 ++ b2 ++ b1 ++ b0

/-- WAIT: numerator, then denominator; a zero denominator is no duration. -/
def decodeWait (num den : BitVec 32) : Except DecodeReject Instr :=
  if den = 0 then .error .zeroDenominator else .ok (.wait num den)

/-- The operation a request stands for. Total on any bytes; what is no operation is rejected by name. -/
def decode (r : Request) : Except DecodeReject Instr :=
  match r.sel, r.bytes with
  | .unitEnc, [h, l] => decodeEncode (joinBytes h l)
  | .unitDec, [h, l] => .ok (.decode (joinBytes h l))
  | .unitScl, [h, l, g] => decodeRaw2v (joinBytes h l) g
  | .unitFsr, [g] => decodeFsr g
  | .unitSps, [d] => decodeSps d
  | .stepStrobe, [h, l] => .ok (.strobe (joinBytes h l))
  | .entryConstruct, [a, c, g, m, d, bus, dev] => decodeConstruct a c g m d bus dev
  | .entryWriteConfig, [dev] => .ok (.writeConfig dev)
  | .entrySampleRaw, [f, dev] => decodeSampleRaw f dev
  | .entrySampleVoltage, [f, dev] => decodeSampleVoltage f dev
  | .entryReconfigure, [h, l, dev] => decodeReconfigure (joinBytes h l) dev
  | .entryReadConfig, [dev] => .ok (.readConfig dev)
  | .callRead16, [a, p, bus] => .ok (.read16 bus a p)
  | .callWrite16, [h, l, a, p, bus] => .ok (.write16 bus a p (joinBytes h l))
  | .stepWait, [n3, n2, n1, n0, d3, d2, d1, d0] => decodeWait (joinFour n3 n2 n1 n0) (joinFour d3 d2 d1 d0)
  | _, _ => .error .badLength

/-- The selector of an operation (30_encoding.md R62, R63). -/
def Instr.selector : Instr → Selector
  | .encode _ _ _ _ => .unitEnc
  | .decode _ => .unitDec
  | .raw2v _ _ => .unitScl
  | .fsr _ => .unitFsr
  | .sps _ => .unitSps
  | .strobe _ => .stepStrobe
  | .construct _ _ _ _ _ _ _ => .entryConstruct
  | .writeConfig _ => .entryWriteConfig
  | .sampleRaw _ _ => .entrySampleRaw
  | .sampleVoltage _ _ => .entrySampleVoltage
  | .reconfigure _ _ _ _ _ => .entryReconfigure
  | .readConfig _ => .entryReadConfig
  | .read16 _ _ _ => .callRead16
  | .write16 _ _ _ _ => .callWrite16
  | .wait _ _ => .stepWait

/-- The two bytes of a word, high byte first (30_encoding.md R68). -/
def wordBytes (w : Word16) : List Byte := [hiByte w, loByte w]

/-- The four bytes of a 32-bit number, most significant first. -/
def fourBytes (n : BitVec 32) : List Byte :=
  [(n >>> 24).setWidth 8, (n >>> 16).setWidth 8, (n >>> 8).setWidth 8, n.setWidth 8]

/-- A Boolean operand in a byte of its own. -/
def forceByte (force : Bool) : Byte := if force then 1 else 0

/-- The operand bytes of an operation. -/
def operandBytes : Instr → List Byte
  | .encode ch gain mode dr => wordBytes (insertFields ch.code gain.code mode.code dr.code)
  | .decode w => wordBytes w
  | .raw2v raw gain => wordBytes raw ++ [gain.code.setWidth 8]
  | .fsr gain => [gain.code.setWidth 8]
  | .sps dr => [dr.code.setWidth 8]
  | .strobe w => wordBytes w
  | .construct dev bus a ch gain mode dr =>
    [a, ch.code.setWidth 8, gain.code.setWidth 8, mode.code.setWidth 8, dr.code.setWidth 8, bus, dev]
  | .writeConfig dev => [dev]
  | .sampleRaw dev force => [forceByte force, dev]
  | .sampleVoltage dev force => [forceByte force, dev]
  | .reconfigure dev ch gain mode dr =>
    wordBytes (strobeBit ||| insertFields ch.code gain.code mode.code dr.code) ++ [dev]
  | .readConfig dev => [dev]
  | .read16 bus a p => [a, p, bus]
  | .write16 bus a p v => wordBytes v ++ [a, p, bus]
  | .wait num den => fourBytes num ++ fourBytes den

/-- The request of an operation. -/
def encode (i : Instr) : Request := ⟨i.selector, operandBytes i⟩

/-- The request that a word of spec/opcode_table.json stands for, when nothing but its bits is given. Several
rows share a pattern, since there is no opcode field (30_encoding.md R63); the row whose mask fixes most bits
wins, and the earlier row of the table among equals (assumption log 2): a 16-bit word is ENCODE, STROBE or
DECODE, a 3-bit one FSR. Every other number of bits belongs to no row: no selector reads an empty request. -/
def tableRequest (nbits w : Nat) : Request :=
  if nbits = 16 then
    let v : Word16 := BitVec.ofNat 16 w
    if v &&& fixedMask = lowFixed then ⟨.unitEnc, wordBytes v⟩
    else if v &&& fixedMask = strobeBit ||| lowFixed then ⟨.stepStrobe, wordBytes v⟩
    else ⟨.unitDec, wordBytes v⟩
  else if nbits = 8 ∨ nbits = 3 then ⟨.unitFsr, [BitVec.ofNat 8 w]⟩
  else ⟨.unitDec, []⟩

/-- The operation the decoder reads from a word of the table. -/
def decodeTableWord (nbits w : Nat) : Option Instr :=
  match decode (tableRequest nbits w) with
  | .ok i => some i
  | .error _ => none

end Sys2Proof
end

