-- ==== Sys2Proof/Machine/Fetch.lean ====
section
/-! DEFINITION. How the next operation reaches the machine: the caller's list, first to last (10_state.md R21). -/

namespace Sys2Proof.Machine

/-- The next request, if the caller has one. -/
def State.nextRequest (s : State) : Option Request := s.requests.head?

/-- The state as an operation sees it: its own request is off the list. -/
def State.accept (s : State) : State := { s with requests := s.requests.tail }

/-- A request put where `step` takes its next one. -/
def State.enqueueFirst (s : State) (r : Request) : State := { s with requests := r :: s.requests }

end Sys2Proof.Machine
end

