-- ==== Sys2Proof/Machine/Step.lean ====
section
/-! DEFINITION. One step: the caller's next operation, run to its end (10_state.md R17, R21). -/

namespace Sys2Proof.Machine

/-- One operation. With no operation asked for the machine idles (70_reset_and_hazards.md R166, assumption
log 3). A request that is no operation is refused by name. -/
def step (s : State) : Host.Outcome State Fault Refusal :=
  match s.nextRequest with
  | none => .next s
  | some r =>
    match decode r with
    | .ok i => exec i s.accept
    | .error why => .refused (.badRequest why)

/-- A word of the operation table placed where `step` takes its next operation (assumption log 2, 3). -/
def State.withFetchWord (s : State) (nbits w : Nat) : State := s.enqueueFirst (tableRequest nbits w)

end Sys2Proof.Machine
end

