-- ==== Sys2Proof/Machine/Ports.lean ====
section
/-! DEFINITION. RCODEC as a block (10_state.md R15, R16). -/

namespace Sys2Proof.Machine

/-- "At every instant each output port holds the value its operation's rule gives for the values then on that
unit's input ports" (10_state.md R16): the five units side by side, with no state. -/
def rcodec (i : PortsIn) : PortsOut where
  encWord := encUnit i.encCh i.encGain i.encMode i.encDr
  dec := decUnit i.decWord
  sclVout := sclUnit i.sclRaw i.sclGain
  fsrMv := fsrUnit i.fsrGain
  spsVal := spsUnit i.spsDr

end Sys2Proof.Machine
end

