-- ==== Sys2Proof/Safety.lean ====
section
/-! DEFINITION. What a good state is (`State.Inv`), and the caller's timing and order contract
(70_reset_and_hazards.md R153, R155 to R163), which no hardware checks: predicates on a state and what has
happened on its transports. A value read outside the contract means nothing (R145, U1, U4); the machine
returns it all the same. -/

namespace Sys2Proof

/-! ### Kinds of operations -/

/-- The five operations of RCODEC (30_encoding.md R62, column level). -/
def Instr.isRcodec : Instr → Bool
  | .encode _ _ _ _ => true
  | .decode _ => true
  | .raw2v _ _ => true
  | .fsr _ => true
  | .sps _ => true
  | .strobe _ => false
  | .construct _ _ _ _ _ _ _ => false
  | .writeConfig _ => false
  | .sampleRaw _ _ => false
  | .sampleVoltage _ _ => false
  | .reconfigure _ _ _ _ _ => false
  | .readConfig _ => false
  | .read16 _ _ _ => false
  | .write16 _ _ _ _ => false
  | .wait _ _ => false

/-- The controller that an operation other than CONSTRUCT acts on. -/
def Instr.target : Instr → Option Byte
  | .encode _ _ _ _ => none
  | .decode _ => none
  | .raw2v _ _ => none
  | .fsr _ => none
  | .sps _ => none
  | .strobe _ => none
  | .construct _ _ _ _ _ _ _ => none
  | .writeConfig dev => some dev
  | .sampleRaw dev _ => some dev
  | .sampleVoltage dev _ => some dev
  | .reconfigure dev _ _ _ _ => some dev
  | .readConfig dev => some dev
  | .read16 _ _ _ => none
  | .write16 _ _ _ _ => none
  | .wait _ _ => none

/-- The controller whose shadow registers an operation writes: CONSTRUCT and RECONFIGURE only (10_state.md R19). -/
def Instr.writesShadow : Instr → Option Byte
  | .encode _ _ _ _ => none
  | .decode _ => none
  | .raw2v _ _ => none
  | .fsr _ => none
  | .sps _ => none
  | .strobe _ => none
  | .construct dev _ _ _ _ _ _ => some dev
  | .writeConfig _ => none
  | .sampleRaw _ _ => none
  | .sampleVoltage _ _ => none
  | .reconfigure dev _ _ _ _ => some dev
  | .readConfig _ => none
  | .read16 _ _ _ => none
  | .write16 _ _ _ _ => none
  | .wait _ _ => none

end Sys2Proof

namespace Sys2Proof.Machine

/-- The address of a byte of some device's configuration register (20_memory.md R31, R32). -/
def isConfigKey (key : Nat) : Bool :=
  decide (key / 2 % 256 = 1) && validAddress (BitVec.ofNat 8 (key / 512)) && decide (key / 131072 < 256)

/-- The key of some device among the trigger counts. -/
def isDeviceKey (key : Nat) : Bool := validAddress (BitVec.ofNat 8 key) && decide (key / 256 < 256)

/-- What every step keeps. -/
structure State.Inv (s : State) : Prop where
  /-- Memory is in canonical form. -/
  memWf : Memory.wf s.mem = true
  /-- The controllers and the counts are in canonical form. -/
  controllersSorted : Assoc.sorted s.controllers = true
  triggersSorted : Assoc.sorted s.triggers = true
  /-- "only the four listed values can ever be stored" in ADDR (10_state.md R18); names are bytes. -/
  addressesValid : Assoc.all (fun k c => decide (k < 256) && validAddress c.addr) s.controllers = true
  /-- Only configuration registers of devices at valid addresses are ever written (20_memory.md R32, D24). -/
  memConfigOnly : Assoc.all (fun k _ => isConfigKey k) s.mem = true
  /-- A count is kept only for a device, and only once it is positive. -/
  triggersPositive : Assoc.all (fun k n => isDeviceKey k && decide (0 < n)) s.triggers = true
  /-- `DecodeError::UnknownField` is never produced (60_exceptions.md R132). -/
  noUnknownField : s.result ≠ some (.err .unknownField)

/-! ### The caller's contract -/

/-- What the caller's contract looks at for one device. -/
structure Window where
  /-- The writes to its configuration register back to the last one that certainly set it converting (one that
  returned `Ok` and carried the strobe), newest first, with the seconds waited since each. The later ones are
  writes that failed, which the device may have taken or not (20_memory.md R40), and writes without the strobe,
  which start no conversion (R38). -/
  writes : List (Rat × Word16)
  /-- The seconds waited since the last successful read of its conversion register after that write. -/
  lastRead : Option Rat
  deriving DecidableEq, Repr

/-- `t` seconds later. -/
def Window.later (v : Window) (t : Rat) : Window :=
  ⟨v.writes.map fun e => (e.1 + t, e.2), v.lastRead.map fun e => e + t⟩

/-- One more write that does not certainly set the device converting. -/
def Window.push (v : Window) (w : Word16) : Window := { v with writes := (0, w) :: v.writes }

/-- The window of a device; none if no write that returned `Ok` ever carried the strobe: then no sample of it
means anything (70_reset_and_hazards.md R153 step 3, R159). -/
def window (bus a : Byte) : List BusEvent → Option Window
  | [] => none
  | .wait t :: rest => (window bus a rest).map fun v => v.later t
  | .write b a' p b0 b1 ok :: rest =>
    if b = bus ∧ a' = a ∧ p = ptrConfig then
      if ok && (joinBytes b0 b1).getLsbD 15 then some ⟨[(0, joinBytes b0 b1)], none⟩
      else (window bus a rest).map fun v => v.push (joinBytes b0 b1)
    else window bus a rest
  | .read b a' p _ _ :: rest =>
    if b = bus ∧ a' = a ∧ p = ptrConversion then (window bus a rest).map fun v => { v with lastRead := some 0 }
    else window bus a rest
  | .readFailed _ _ _ :: rest => window bus a rest

/-- The seconds waited in a stretch of events. -/
def waited : List BusEvent → Rat
  | [] => 0
  | .wait t :: rest => waited rest + t
  | .write _ _ _ _ _ _ :: rest => waited rest
  | .read _ _ _ _ _ :: rest => waited rest
  | .readFailed _ _ _ :: rest => waited rest

/-- The conversion wait (70_reset_and_hazards.md R153 step 4, R156): a write set the device converting, and since
that write, and since every later one that the device may hold, `1/SPS` seconds passed at the rate in its word. -/
def conversionWaitMet (bus a : Byte) (evs : List BusEvent) : Bool :=
  match window bus a evs with
  | some v => v.writes.all fun e => decide (minWait (.ofCode (extractDr e.2)) ≤ e.1)
  | none => false

/-- The spacing of reads in continuous mode (70_reset_and_hazards.md R158, 43_controller.md R123), for every
configuration the device may hold. -/
def spacingMet (bus a : Byte) (evs : List BusEvent) : Bool :=
  match window bus a evs with
  | some ⟨writes, some t⟩ => writes.all fun e =>
      decide (OperatingMode.ofCode (extractMode e.2) = .singleShot) || decide (minWait (.ofCode (extractDr e.2)) ≤ t)
  | some ⟨_, none⟩ => true
  | none => true

/-- A read of a conversion register is one the caller's contract calls valid. -/
def readTimely (bus a : Byte) (evs : List BusEvent) : Bool := conversionWaitMet bus a evs && spacingMet bus a evs

/-- The conversion that produced the sample ran under the gain the voltage is scaled with
(70_reset_and_hazards.md R163): the write that set the device converting carried it, and so did every later one
that the device may hold. -/
def gainAgrees (bus a : Byte) (gain : GainRange) (evs : List BusEvent) : Bool :=
  match window bus a evs with
  | some v => v.writes.all fun e => decide (GainRange.ofCode (extractGain e.2) = gain)
  | none => false

/-- The last write to a device's configuration register returned `Ok` (70_reset_and_hazards.md R162). -/
def lastWriteOk (bus a : Byte) : List BusEvent → Bool
  | [] => false
  | .write b a' p _ _ ok :: rest => if b = bus ∧ a' = a ∧ p = ptrConfig then ok else lastWriteOk bus a rest
  | .wait _ :: rest => lastWriteOk bus a rest
  | .read _ _ _ _ _ :: rest => lastWriteOk bus a rest
  | .readFailed _ _ _ :: rest => lastWriteOk bus a rest

/-- What the caller owes for an unforced sample (43_controller.md R116; 70_reset_and_hazards.md R156, R158, R159). -/
def unforcedMet (s : State) (dev : Byte) : Bool :=
  match s.controllerOf dev with
  | some c => c.configured && readTimely c.bus c.addr s.bus
  | none => false

/-- For a voltage the gain must agree as well (70_reset_and_hazards.md R163). -/
def unforcedVoltageMet (s : State) (dev : Byte) : Bool :=
  unforcedMet s dev &&
    match s.controllerOf dev with
    | some c => gainAgrees c.bus c.addr c.gain s.bus && lastWriteOk c.bus c.addr s.bus
    | none => false

/-- What the caller owes before it asks for an operation: a controller that exists (10_state.md R20) and, for
a sample that is not forced or a direct read of a conversion register, the contract above. RCODEC may be used
at any time (R153). -/
def contractMet (i : Instr) (s : State) : Bool :=
  match i with
  | .encode _ _ _ _ => true
  | .decode _ => true
  | .raw2v _ _ => true
  | .fsr _ => true
  | .sps _ => true
  | .strobe _ => true
  | .construct _ _ _ _ _ _ _ => true
  | .writeConfig dev => (s.controllerOf dev).isSome
  | .sampleRaw dev force => if force then (s.controllerOf dev).isSome else unforcedMet s dev
  | .sampleVoltage dev force => if force then (s.controllerOf dev).isSome else unforcedVoltageMet s dev
  | .reconfigure dev _ _ _ _ => (s.controllerOf dev).isSome
  | .readConfig dev => (s.controllerOf dev).isSome
  | .read16 bus a p => (readRefusal a p).isNone && (p != ptrConversion || readTimely bus a s.bus)
  | .write16 _ a p _ => (writeRefusal a p).isNone
  | .wait _ den => den != 0

/-! ### What two states have in common -/

/-- The five shadow registers and the transport handle, without the ghost flag (10_state.md R18). -/
def Controller.shadow (c : Controller) : Byte × ChannelSelector × GainRange × OperatingMode × DataRate × Byte :=
  (c.addr, c.ch, c.gain, c.mode, c.dr, c.bus)

/-- No other controller changed, its ghost flag included. -/
def OthersKept (dev : Byte) (s t : State) : Prop :=
  ∀ other, other ≠ dev → t.controllerOf other = s.controllerOf other

/-- No controller changed. -/
def ControllersKept (s t : State) : Prop := ∀ dev, t.controllerOf dev = s.controllerOf dev

/-- Every byte of memory reads as before. -/
def MemoryKept (s t : State) : Prop := ∀ key, t.readByte key = s.readByte key

/-- Every byte of memory outside one device's configuration register reads as before. -/
def MemoryKeptOutside (bus a : Byte) (s t : State) : Prop :=
  ∀ key, key ≠ regKey bus a ptrConfig → key ≠ regKey bus a ptrConfig + 1 → t.readByte key = s.readByte key

/-- Every count of started conversions is as before. -/
def TriggersKept (s t : State) : Prop := ∀ bus a, t.triggerCount bus a = s.triggerCount bus a

/-- Every other device's count is as before. -/
def TriggersKeptOutside (bus a : Byte) (s t : State) : Prop :=
  ∀ b a', (b, a') ≠ (bus, a) → t.triggerCount b a' = s.triggerCount b a'

/-! ### Kinds of events -/

/-- A transport call that failed. -/
def BusEvent.failed : BusEvent → Bool
  | .write _ _ _ _ _ ok => !ok
  | .read _ _ _ _ _ => false
  | .readFailed _ _ _ => true
  | .wait _ => false

/-- A READ16, successful or not. -/
def BusEvent.isRead : BusEvent → Bool
  | .write _ _ _ _ _ _ => false
  | .read _ _ _ _ _ => true
  | .readFailed _ _ _ => true
  | .wait _ => false

/-- A WRITE16, successful or not. -/
def BusEvent.isWrite : BusEvent → Bool
  | .write _ _ _ _ _ _ => true
  | .read _ _ _ _ _ => false
  | .readFailed _ _ _ => false
  | .wait _ => false

/-- A transport call, successful or not. -/
def BusEvent.isCall (e : BusEvent) : Bool := e.isRead || e.isWrite

/-- What a controller may do on its transport (43_controller.md R124), and its wait. -/
def BusEvent.allowedFor (c : Controller) : BusEvent → Prop
  | .write bus a p b0 b1 _ => bus = c.bus ∧ a = c.addr ∧ p = ptrConfig ∧ joinBytes b0 b1 &&& 0x801F = 0x8003
  | .read bus a p _ _ => bus = c.bus ∧ a = c.addr ∧ (p = ptrConversion ∨ p = ptrConfig)
  | .readFailed bus a p => bus = c.bus ∧ a = c.addr ∧ (p = ptrConversion ∨ p = ptrConfig)
  | .wait t => 0 ≤ t

/-- When an operation runs to a result: at any time for RCODEC, STROBE, CONSTRUCT and WAIT; on a controller
that exists (10_state.md R20) and whose address is a valid one, as it always is (R18); on the registers the
transport gives a meaning to (20_memory.md R31, R32, D24). -/
def runnable (i : Instr) (s : State) : Bool :=
  match i with
  | .encode _ _ _ _ => true
  | .decode _ => true
  | .raw2v _ _ => true
  | .fsr _ => true
  | .sps _ => true
  | .strobe _ => true
  | .construct _ _ _ _ _ _ _ => true
  | .writeConfig dev => (s.controllerOf dev).any fun c => validAddress c.addr
  | .sampleRaw dev _ => (s.controllerOf dev).any fun c => validAddress c.addr
  | .sampleVoltage dev _ => (s.controllerOf dev).any fun c => validAddress c.addr
  | .reconfigure dev _ _ _ _ => (s.controllerOf dev).any fun c => validAddress c.addr
  | .readConfig dev => (s.controllerOf dev).any fun c => validAddress c.addr
  | .read16 _ a p => validAddress a && (p == ptrConversion || p == ptrConfig)
  | .write16 _ a p _ => validAddress a && p == ptrConfig
  | .wait _ _ => true

end Sys2Proof.Machine
end

