-- ==== Sys2Proof/Certificates/Slice0/Obligations.lean ====
section
/-! DEFINITION. The statements for the provers. The field codes, tables and addresses of the spec are written
out in them where the statement is about them; elsewhere they use the model's own functions, which these
statements fix. `s.draw` is the environment's choice for the next transport call from `s`; statements hold for
every choice. Where a docstring says "log <n>", the clause it stands at rests on a choice of the model's own,
notes/assumptions/<n>.md, and on no rule of the spec. -/

open Sys2Proof Sys2Proof.Machine

/-! ### The encoder -/

/-- 40_encode.md R75 to R78: ENCODE returns the packed word from every state, changes nothing else, has bit 15
clear and bits 4:0 equal to 00011; every bit pattern on the four ports is a legal tuple; its corner cases are as
R75 lists them. -/
def Obligations.EncodePacksFieldsAndNeverFails : Prop :=
  (∀ (ch : ChannelSelector) (gain : GainRange) (mode : OperatingMode) (dr : DataRate) (s : State),
    ∃ w : Word16,
      exec (.encode ch gain mode dr) s = .next { s with result := some (.ok (.word w)) } ∧
      w = (0 : Word16) ||| (ch.code.setWidth 16 <<< 12) ||| (gain.code.setWidth 16 <<< 9)
        ||| (mode.code.setWidth 16 <<< 8) ||| (dr.code.setWidth 16 <<< 5) ||| 0b00011 ∧
      w.getLsbD 15 = false ∧ w.extractLsb' 2 3 = 0b000 ∧ w.extractLsb' 0 2 = 0b11) ∧
  (∀ (ch gain : Code3) (mode : Code1) (dr : Code3), ∃ t : Fields,
    t.ch.code = ch ∧ t.gain.code = gain ∧ t.mode.code = mode ∧ t.dr.code = dr) ∧
  encodeWord ⟨.ofCode 0, .ofCode 0, .ofCode 0, .ofCode 0⟩ = 0x0003 ∧
  encodeWord ⟨.ofCode 7, .ofCode 7, .ofCode 1, .ofCode 7⟩ = 0x7FE3 ∧
  (∀ ch mode dr, encodeWord ⟨ch, .ofCode 5, mode, dr⟩ ≠ encodeWord ⟨ch, .ofCode 6, mode, dr⟩ ∧
    encodeWord ⟨ch, .ofCode 6, mode, dr⟩ ≠ encodeWord ⟨ch, .ofCode 7, mode, dr⟩ ∧
    encodeWord ⟨ch, .ofCode 5, mode, dr⟩ ≠ encodeWord ⟨ch, .ofCode 7, mode, dr⟩)

/-- 40_encode.md R80 (the spec's own inference): ENCODE is a sum with no carry between fields, and one operand
changes only its own field. -/
def Obligations.EncodeFieldsDoNotInteract : Prop :=
  ∀ (ch ch' : ChannelSelector) (gain gain' : GainRange) (mode mode' : OperatingMode) (dr dr' : DataRate),
    (encodeWord ⟨ch, gain, mode, dr⟩).toNat =
      4096 * ch.code.toNat + 512 * gain.code.toNat + 256 * mode.code.toNat + 32 * dr.code.toNat + 3 ∧
    encodeWord ⟨ch, gain, mode, dr⟩ ^^^ encodeWord ⟨ch', gain, mode, dr⟩ = (ch.code ^^^ ch'.code).setWidth 16 <<< 12 ∧
    encodeWord ⟨ch, gain, mode, dr⟩ ^^^ encodeWord ⟨ch, gain', mode, dr⟩ = (gain.code ^^^ gain'.code).setWidth 16 <<< 9 ∧
    encodeWord ⟨ch, gain, mode, dr⟩ ^^^ encodeWord ⟨ch, gain, mode', dr⟩ = (mode.code ^^^ mode'.code).setWidth 16 <<< 8 ∧
    encodeWord ⟨ch, gain, mode, dr⟩ ^^^ encodeWord ⟨ch, gain, mode, dr'⟩ = (dr.code ^^^ dr'.code).setWidth 16 <<< 5

/-- 40_encode.md R79 and 30_encoding.md R64 (the spec's own inferences): ENCODE is injective, and its words
are exactly those with bit 15 and bits 4:2 clear and bits 1:0 set; the strobed ones are those with bit 15 set. -/
def Obligations.EncodeImageIsTheFixedPattern : Prop :=
  (∀ t t' : Fields, encodeWord t = encodeWord t' → t = t') ∧
  (∀ w : Word16, (∃ t : Fields, encodeWord t = w) ↔ w &&& 0x801F = 0x0003) ∧
  (∀ w : Word16, (∃ t : Fields, strobeWord (encodeWord t) = w) ↔ w &&& 0x801F = 0x8003)

/-- 40_encode.md R81: STROBE sets bit 15 and leaves bits 14:0, from every state and changing nothing else; it
is idempotent, and on an output of ENCODE it adds exactly 32768. -/
def Obligations.StrobeSetsBit15Only : Prop :=
  (∀ (w : Word16) (s : State), ∃ v : Word16,
    exec (.strobe w) s = .next { s with result := some (.ok (.word v)) } ∧ v = w ||| 0x8000 ∧
    v.getLsbD 15 = true ∧ (∀ k < 15, v.getLsbD k = w.getLsbD k) ∧
    exec (.strobe v) s = .next { s with result := some (.ok (.word v)) }) ∧
  (∀ t : Fields, strobeWord (encodeWord t) ≠ encodeWord t ∧
    (strobeWord (encodeWord t)).toNat = (encodeWord t).toNat + 32768)

/-! ### The decoder -/

/-- 41_decode.md R85: DECODE returns the four fields by mask and shift, for every word and from every state,
and changes nothing else. -/
def Obligations.DecodeExtractsFourFields : Prop :=
  ∀ (w : Word16) (s : State), ∃ t : Fields,
    exec (.decode w) s = .next { s with result := some (.ok (.fields t)) } ∧
    t.ch.code = ((w &&& 0x7000) >>> 12).setWidth 3 ∧ t.gain.code = ((w &&& 0x0E00) >>> 9).setWidth 3 ∧
    t.mode.code = ((w &&& 0x0100) >>> 8).setWidth 1 ∧ t.dr.code = ((w &&& 0x00E0) >>> 5).setWidth 3 ∧
    t.ch.code = w.extractLsb' 12 3 ∧ t.gain.code = w.extractLsb' 9 3 ∧
    t.mode.code = w.extractLsb' 8 1 ∧ t.dr.code = w.extractLsb' 5 3

/-- 41_decode.md R86: DECODE ignores bit 15 and bits 4:0, and the union of its masks is 0x7FE0. -/
def Obligations.DecodeIgnoresStrobeAndTail : Prop :=
  (∀ w w' : Word16, w &&& 0x7FE0 = w' &&& 0x7FE0 → decodeWord w = decodeWord w') ∧
  chMask ||| gainMask ||| modeMask ||| drMask = 0x7FE0

/-- 41_decode.md R88: decoding the word that ENCODE returns gives the same four values. -/
def Obligations.DecodeOfEncodeRoundTrips : Prop :=
  ∀ (ch : ChannelSelector) (gain : GainRange) (mode : OperatingMode) (dr : DataRate) (s : State),
    ∃ w : Word16,
      exec (.encode ch gain mode dr) s = .next { s with result := some (.ok (.word w)) } ∧
      exec (.decode w) s = .next { s with result := some (.ok (.fields ⟨ch, gain, mode, dr⟩)) }

/-- 41_decode.md R89, R90, R93 (the spec's own inferences): re-encoding keeps bits 14:5 and forces the rest,
so it is the identity exactly on ENCODE's words; the strobe does not disturb decoding; every tuple is decoded
from exactly the words that agree with its own in bits 14:5. -/
def Obligations.ReencodingKeepsFieldsOnly : Prop :=
  (∀ w : Word16, encodeWord (decodeWord w) = (w &&& 0x7FE0) ||| 0x0003) ∧
  (∀ w : Word16, encodeWord (decodeWord w) = w ↔ w &&& 0x801F = 0x0003) ∧
  (∀ t : Fields, decodeWord (strobeWord (encodeWord t)) = t) ∧
  (∀ (t : Fields) (w : Word16), decodeWord w = t ↔ w &&& 0x7FE0 = encodeWord t &&& 0x7FE0)

/-! ### The scaler and the lookups -/

/-- 42_scale.md R96, with D5 for the millivolt integers: the eight rows of FSR, from every state and changing
nothing else; the lookup merges codes 5, 6 and 7. -/
def Obligations.FsrReturnsFullScaleMillivolts : Prop :=
  ∀ (gain : GainRange) (s : State),
    exec (.fsr gain) s = .next { s with result := some (.ok (.millivolts
      (match gain with
        | .fsr6144 => 6144 | .fsr4096 => 4096 | .fsr2048 => 2048 | .fsr1024 => 1024
        | .fsr512 => 512 | .fsr256 => 256 | .fsr256Alias6 => 256 | .fsr256Alias7 => 256))) } ∧
    gain.code.toNat = (match gain with
        | .fsr6144 => 0 | .fsr4096 => 1 | .fsr2048 => 2 | .fsr1024 => 3
        | .fsr512 => 4 | .fsr256 => 5 | .fsr256Alias6 => 6 | .fsr256Alias7 => 7)

/-- 42_scale.md R97: the eight rows of SPS, from every state and changing nothing else; the lookup is
injective, and strictly increasing in the code. -/
def Obligations.SpsReturnsSamplesPerSecond : Prop :=
  (∀ (dr : DataRate) (s : State),
    exec (.sps dr) s = .next { s with result := some (.ok (.rate
      (match dr.code.toNat with
        | 0 => 8 | 1 => 16 | 2 => 32 | 3 => 64 | 4 => 128 | 5 => 250 | 6 => 475 | _ => 860))) }) ∧
  (∀ d d' : DataRate, spsUnit d.code = spsUnit d'.code → d = d') ∧
  (∀ d d' : DataRate, d.code < d'.code → spsUnit d.code < spsUnit d'.code)

/-- 42_scale.md R95: the two's-complement reading, its three forms, its range and its corner cases. -/
def Obligations.SignedReadingIsTwosComplement : Prop :=
  (∀ raw : Word16,
    s16 raw = (if raw.getLsbD 15 then (raw.toNat : Int) - 65536 else (raw.toNat : Int)) ∧
    s16 raw = (raw.toNat : Int) - 65536 * (raw.getLsbD 15).toNat ∧
    s16 raw = raw.toInt ∧ -32768 ≤ s16 raw ∧ s16 raw ≤ 32767) ∧
  s16 0x0000 = 0 ∧ s16 0x7FFF = 32767 ∧ s16 0x8000 = -32768 ∧ s16 0xFFFF = -1

/-- 42_scale.md R100, R102, R103 (D5 and the spec's own inferences): RAW2V completes from every state, changes
nothing else, and its 21-bit result times 256 is exactly the product of the signed sample and the full-scale
millivolts: the shift loses nothing and 21 bits hold every result. -/
def Obligations.Raw2vIsTheExactScaledProduct : Prop :=
  ∀ (raw : Word16) (gain : GainRange) (s : State), ∃ v : BitVec 21,
    exec (.raw2v raw gain) s = .next { s with result := some (.ok (.vout v)) } ∧
    v.toInt * 256 = raw.toInt * ((fsrUnit gain.code).toNat : Int) ∧
    -786432 ≤ v.toInt ∧ v.toInt ≤ 786408 ∧
    (-268435456 ≤ product raw gain.code ∧ product raw gain.code ≤ 268435455) ∧
    product raw gain.code % 256 = 0

/-- 42_scale.md R98 and R101 (D5): the volts of the fixed-point result are exactly the real-valued definition,
with the full-scale values in volts written out; the divisor is 2^15 (R99). -/
def Obligations.VoltageIsExact : Prop :=
  ∀ (raw : Word16) (gain : GainRange),
    ((raw2vOf raw gain).toInt : Rat) / 128000 =
      (raw.toInt : Rat) / 32768 * (match gain with
        | .fsr6144 => 6.144 | .fsr4096 => 4.096 | .fsr2048 => 2.048 | .fsr1024 => 1.024
        | .fsr512 => 0.512 | .fsr256 => 0.256 | .fsr256Alias6 => 0.256 | .fsr256Alias7 => 0.256) ∧
    voltsOf (raw2vOf raw gain).toInt = voltage raw gain

/-- 42_scale.md R104 and R106 (D5 and the spec's own inferences): the equivalent form by K, the aliasing of
gains 5, 6 and 7, negation of every word but 0x8000, strict monotony in the sample, and the zero. -/
def Obligations.Raw2vIsScaledByK : Prop :=
  (∀ (raw : Word16) (gain : GainRange), (raw2vOf raw gain).toInt = raw.toInt * (match gain with
      | .fsr6144 => 24 | .fsr4096 => 16 | .fsr2048 => 8 | .fsr1024 => 4
      | .fsr512 => 2 | .fsr256 => 1 | .fsr256Alias6 => 1 | .fsr256Alias7 => 1)) ∧
  (∀ raw : Word16, raw2vOf raw .fsr256 = raw.signExtend 21 ∧ raw2vOf raw .fsr256Alias6 = raw2vOf raw .fsr256 ∧
    raw2vOf raw .fsr256Alias7 = raw2vOf raw .fsr256) ∧
  (∀ (raw : Word16) (gain : GainRange), raw ≠ 0x8000 → (raw2vOf (-raw) gain).toInt = -(raw2vOf raw gain).toInt) ∧
  (∀ gain : GainRange, (raw2vOf (-0x8000) gain).toInt < 0 ∧ 0 < -(raw2vOf 0x8000 gain).toInt) ∧
  (∀ (raw raw' : Word16) (gain : GainRange), raw.toInt < raw'.toInt →
    (raw2vOf raw gain).toInt < (raw2vOf raw' gain).toInt) ∧
  (∀ gain : GainRange, raw2vOf 0x0000 gain = 0)

/-- 42_scale.md R99: raw 0x8000 is exactly minus full scale, raw 0x7FFF is full scale times 32767/32768, and
plus full scale is never produced. In volts of the fixed-point result (D5). -/
def Obligations.FullScaleIsAsymmetric : Prop :=
  ∀ gain : GainRange,
    voltsOf (raw2vOf 0x8000 gain).toInt = -fsrVolts gain ∧
    voltsOf (raw2vOf 0x7FFF gain).toInt = fsrVolts gain * (32767 / 32768) ∧
    ∀ raw : Word16, voltsOf (raw2vOf raw gain).toInt < fsrVolts gain

/-- 70_reset_and_hazards.md R157 (the spec's own inference): the minimum waits, and that the microseconds are
the least whole number not below the exact value. -/
def Obligations.MinimumWaitsPerRate : Prop :=
  ∀ dr : DataRate,
    minWait dr = (match dr with
      | .sps8 => 1/8 | .sps16 => 1/16 | .sps32 => 1/32 | .sps64 => 1/64
      | .sps128 => 1/128 | .sps250 => 1/250 | .sps475 => 1/475 | .sps860 => 1/860) ∧
    minWait dr ≤ (minWaitMicros dr : Rat) / 1000000 ∧
    (minWaitMicros dr : Rat) / 1000000 < minWait dr + 1 / 1000000

/-! ### RCODEC as a block -/

/-- 10_state.md R13 and 20_memory.md R47: an operation of RCODEC changes nothing but the result handed to its
caller, makes no access to the register space, and gives equal results from any two states. -/
def Obligations.RcodecHoldsNoState : Prop :=
  ∀ (i : Instr), i.isRcodec = true → ∃ r : Result, ∀ s : State, exec i s = .next { s with result := some r }

/-- 10_state.md R16 (D1): the five units are independent, each output is a function of its own unit's inputs,
and `dec_err` is 0. -/
def Obligations.RcodecUnitsAreIndependent : Prop :=
  ∀ i j : PortsIn,
    ((i.encCh, i.encGain, i.encMode, i.encDr) = (j.encCh, j.encGain, j.encMode, j.encDr) →
      (rcodec i).encWord = (rcodec j).encWord) ∧
    (i.decWord = j.decWord → (rcodec i).dec = (rcodec j).dec) ∧
    ((i.sclRaw, i.sclGain) = (j.sclRaw, j.sclGain) → (rcodec i).sclVout = (rcodec j).sclVout) ∧
    (i.fsrGain = j.fsrGain → (rcodec i).fsrMv = (rcodec j).fsrMv) ∧
    (i.spsDr = j.spsDr → (rcodec i).spsVal = (rcodec j).spsVal) ∧
    (rcodec i).dec.err = 0

/-- 10_state.md R15 (D3): the operations return what the ports of their unit carry. -/
def Obligations.OperationsReturnTheirPorts : Prop :=
  ∀ (p : PortsIn) (s : State),
    exec (.encode (.ofCode p.encCh) (.ofCode p.encGain) (.ofCode p.encMode) (.ofCode p.encDr)) s =
      .next { s with result := some (.ok (.word (rcodec p).encWord)) } ∧
    (∃ t : Fields, exec (.decode p.decWord) s = .next { s with result := some (.ok (.fields t)) } ∧
      (t.ch.code, t.gain.code, t.mode.code, t.dr.code) =
        ((rcodec p).dec.ch, (rcodec p).dec.gain, (rcodec p).dec.mode, (rcodec p).dec.dr)) ∧
    exec (.raw2v p.sclRaw (.ofCode p.sclGain)) s = .next { s with result := some (.ok (.vout (rcodec p).sclVout)) } ∧
    exec (.fsr (.ofCode p.fsrGain)) s = .next { s with result := some (.ok (.millivolts (rcodec p).fsrMv)) } ∧
    exec (.sps (.ofCode p.spsDr)) s = .next { s with result := some (.ok (.rate (rcodec p).spsVal)) }

/-! ### The transport -/

/-- 20_memory.md R34: WRITE16 to a device's configuration register completes; it sends the high byte first; on
success the caller gets Ok, on failure DeviceUnreachable. No controller, no byte of memory but the two of that
register and no other device's count changes. The counts are the model's (log 11), as are the numbering, the script
and the record of the transport calls (log 7). -/
def Obligations.Write16SendsTheWordHighByteFirst : Prop :=
  ∀ (bus a : Byte) (v : Word16) (s : State), (a = 0x48 ∨ a = 0x49 ∨ a = 0x4A ∨ a = 0x4B) →
    ∃ t, exec (.write16 bus a 0x01 v) s = .next t ∧
      t.bus = .write bus a 0x01 (v.extractLsb' 8 8) (v.extractLsb' 0 8) (!s.draw.fails) :: s.bus ∧
      t.result = some (if s.draw.fails then .err .deviceUnreachable else .ok .unit) ∧
      ControllersKept s t ∧ MemoryKeptOutside bus a s t ∧ TriggersKeptOutside bus a s t ∧
      t.requests = s.requests ∧ t.calls = s.calls + 1 ∧ t.stub = s.stub.tail ∧
      t.taken = (if s.draw.fails && !s.draw.landed then s.taken else (s.calls + 1) :: s.taken)

/-- 20_memory.md R38 (the spec's own reading of what a register write is, for the four fields) and 10_state.md
R24: after a write that succeeds the device's configuration register holds the word: the operand of WRITE16, the
strobed shadow registers for WRITECONFIG and the forced samples, whatever their read then does, and the strobed
operands for RECONFIGURE. That bit 15 and bits 4:0 are held too is the model's (log 9), and that every operand of
WRITE16 is held (log 17). -/
def Obligations.SuccessfulWriteIsHeldByTheDevice : Prop :=
  (∀ (bus a : Byte) (v : Word16) (s : State), validAddress a = true → s.draw.fails = false →
    ∃ t, exec (.write16 bus a 0x01 v) s = .next t ∧ t.configReg bus a = v) ∧
  (∀ (dev : Byte) (c : Controller) (s : State) (i : Instr),
    (i = .writeConfig dev ∨ i = .sampleRaw dev true ∨ i = .sampleVoltage dev true) →
    s.controllerOf dev = some c → validAddress c.addr = true → s.draw.fails = false →
    ∃ t, exec i s = .next t ∧ t.configReg c.bus c.addr = encodeWord ⟨c.ch, c.gain, c.mode, c.dr⟩ ||| 0x8000) ∧
  (∀ (dev : Byte) (ch : ChannelSelector) (gain : GainRange) (mode : OperatingMode) (dr : DataRate) (c : Controller)
    (s : State), s.controllerOf dev = some c → validAddress c.addr = true → s.draw.fails = false →
    ∃ t, exec (.reconfigure dev ch gain mode dr) s = .next t ∧
      t.configReg c.bus c.addr = encodeWord ⟨ch, gain, mode, dr⟩ ||| 0x8000)

/-- 20_memory.md R40 (D27): after a failed write of `w` the configuration register is either its old value or
`w`, by the draw (log 10): for WRITE16, for WRITECONFIG and the forced samples with the strobed shadow registers,
and for RECONFIGURE with the strobed operands. -/
def Obligations.FailedWriteLeavesOldOrNew : Prop :=
  (∀ (bus a : Byte) (v : Word16) (s : State), validAddress a = true → s.draw.fails = true →
    ∃ t, exec (.write16 bus a 0x01 v) s = .next t ∧
      t.configReg bus a = if s.draw.landed then v else s.configReg bus a) ∧
  (∀ (dev : Byte) (c : Controller) (s : State) (i : Instr),
    (i = .writeConfig dev ∨ i = .sampleRaw dev true ∨ i = .sampleVoltage dev true) →
    s.controllerOf dev = some c → validAddress c.addr = true → s.draw.fails = true →
    ∃ t, exec i s = .next t ∧
      t.configReg c.bus c.addr =
        if s.draw.landed then encodeWord ⟨c.ch, c.gain, c.mode, c.dr⟩ ||| 0x8000 else s.configReg c.bus c.addr) ∧
  (∀ (dev : Byte) (ch : ChannelSelector) (gain : GainRange) (mode : OperatingMode) (dr : DataRate) (c : Controller)
    (s : State), s.controllerOf dev = some c → validAddress c.addr = true → s.draw.fails = true →
    ∃ t, exec (.reconfigure dev ch gain mode dr) s = .next t ∧
      t.configReg c.bus c.addr =
        if s.draw.landed then encodeWord ⟨ch, gain, mode, dr⟩ ||| 0x8000 else s.configReg c.bus c.addr)

/-- 20_memory.md R33 with D22 and R39: READ16 completes on both registers of a device; on success its result is
the two bytes most significant first, which are the draw's for the conversion register and agree with the
configuration register in bits 14:5 (log 7, 9); on failure the result is DeviceUnreachable. Nothing on the
device and no controller changes. -/
def Obligations.Read16ReturnsTheRegister : Prop :=
  ∀ (bus a p : Byte) (s : State), (a = 0x48 ∨ a = 0x49 ∨ a = 0x4A ∨ a = 0x4B) → (p = 0x00 ∨ p = 0x01) →
    ∃ t, exec (.read16 bus a p) s = .next t ∧
      (s.draw.fails = true → t.result = some (.err .deviceUnreachable) ∧ t.bus = .readFailed bus a p :: s.bus) ∧
      (s.draw.fails = false → ∃ (b0 b1 : Byte) (w : Word16),
        t.bus = .read bus a p b0 b1 :: s.bus ∧ t.result = some (.ok (.word w)) ∧
        w.toNat = b0.toNat * 256 + b1.toNat ∧
        (p = 0x00 → b0 = s.draw.b0 ∧ b1 = s.draw.b1) ∧
        (p = 0x01 → w &&& 0x7FE0 = s.configReg bus a &&& 0x7FE0)) ∧
      ControllersKept s t ∧ MemoryKept s t ∧ TriggersKept s t ∧
      t.requests = s.requests ∧ t.calls = s.calls + 1 ∧ t.stub = s.stub.tail ∧ t.taken = s.taken

/-- 30_encoding.md R68: a word crosses the transport high byte first, in both directions. -/
def Obligations.TransportIsMostSignificantByteFirst : Prop :=
  (∀ (bus a p : Byte) (v : Word16) (s t : State), exec (.write16 bus a p v) s = .next t →
    ∃ b0 b1 ok, t.bus = .write bus a p b0 b1 ok :: s.bus ∧ b0 = v.extractLsb' 8 8 ∧ b1 = v.extractLsb' 0 8) ∧
  (∀ (bus a p : Byte) (s t : State) (w : Word16), exec (.read16 bus a p) s = .next t →
    t.result = some (.ok (.word w)) →
    ∃ b0 b1, t.bus = .read bus a p b0 b1 :: s.bus ∧ w = (b0.setWidth 16 <<< 8) ||| b1.setWidth 16)

/-- 20_memory.md R38 (partly the spec's own inference; the mode code is D8, log 14): a write that the device takes
starts one conversion if it has bit 15 and the single-shot bit set, and none otherwise: for WRITE16, WRITECONFIG,
the forced samples, whatever their read then does, and RECONFIGURE with its new mode. A failed write that landed
acts as a successful one and one that did not land starts none (log 10). The count is the model's own (log 11). -/
def Obligations.StrobedSingleShotWriteStartsOneConversion : Prop :=
  (∀ (bus a : Byte) (v : Word16) (s : State), validAddress a = true →
    ∃ t, exec (.write16 bus a 0x01 v) s = .next t ∧
      t.triggerCount bus a = s.triggerCount bus a +
        (if (!s.draw.fails || s.draw.landed) && v.getLsbD 15 && v.getLsbD 8 then 1 else 0)) ∧
  (∀ (dev : Byte) (c : Controller) (s : State) (i : Instr),
    (i = .writeConfig dev ∨ i = .sampleRaw dev true ∨ i = .sampleVoltage dev true) →
    s.controllerOf dev = some c → validAddress c.addr = true →
    ∃ t, exec i s = .next t ∧
      t.triggerCount c.bus c.addr = s.triggerCount c.bus c.addr +
        (if (!s.draw.fails || s.draw.landed) && decide (c.mode = .singleShot) then 1 else 0)) ∧
  (∀ (dev : Byte) (ch : ChannelSelector) (gain : GainRange) (mode : OperatingMode) (dr : DataRate) (c : Controller)
    (s : State), s.controllerOf dev = some c → validAddress c.addr = true →
    ∃ t, exec (.reconfigure dev ch gain mode dr) s = .next t ∧
      t.triggerCount c.bus c.addr = s.triggerCount c.bus c.addr +
        (if (!s.draw.fails || s.draw.landed) && decide (mode = .singleShot) then 1 else 0))

/-- 20_memory.md R31, R32 with D24: the transport gives no meaning to a device address outside the valid set,
to a pointer other than 0x00 and 0x01, and to a write to pointer 0x00; each stops under its own name (log 18). -/
def Obligations.TransportRefusesOtherRegisters : Prop :=
  ∀ (bus a p : Byte) (v : Word16) (s : State),
    (validAddress a = false →
      exec (.read16 bus a p) s = .refused .deviceAddress ∧ exec (.write16 bus a p v) s = .refused .deviceAddress) ∧
    (validAddress a = true → p ≠ 0x00 → p ≠ 0x01 →
      exec (.read16 bus a p) s = .refused .registerPointer ∧ exec (.write16 bus a p v) s = .refused .registerPointer) ∧
    (validAddress a = true → exec (.write16 bus a 0x00 v) s = .refused .conversionWrite) ∧
    (validAddress a = true ↔ a = 0x48 ∨ a = 0x49 ∨ a = 0x4A ∨ a = 0x4B)

/-! ### The controller -/

/-- 43_controller.md R111 and R112: CONSTRUCT with one of the four addresses makes the controller with exactly
its operands and the ghost flag false, makes no transport call and changes nothing else; with any other
address the result is InvalidAddress and nothing at all was written. The name `dev`, that it may have been bound
before and that a failed CONSTRUCT leaves it (log 4, 5), the Ok value (log 13), the ghost flag (D26, log 20) and the
payload of the error (log 24) are the model's. -/
def Obligations.ConstructMakesAControllerOrRefusesTheAddress : Prop :=
  ∀ (dev bus a : Byte) (ch : ChannelSelector) (gain : GainRange) (mode : OperatingMode) (dr : DataRate) (s : State),
    ((a = 0x48 ∨ a = 0x49 ∨ a = 0x4A ∨ a = 0x4B) →
      ∃ t, exec (.construct dev bus a ch gain mode dr) s = .next t ∧
        t.controllerOf dev = some ⟨a, ch, gain, mode, dr, bus, false⟩ ∧ OthersKept dev s t ∧
        t.result = some (.ok (.controller dev)) ∧
        t = { s with controllers := t.controllers, result := t.result }) ∧
    (¬ (a = 0x48 ∨ a = 0x49 ∨ a = 0x4A ∨ a = 0x4B) →
      exec (.construct dev bus a ch gain mode dr) s = .next { s with result := some (.err (.invalidAddress a)) })

/-- 60_exceptions.md R131: InvalidAddress comes from CONSTRUCT only, before any state is written. The payload, the
rejected address, follows R111's pseudocode (log 24). -/
def Obligations.InvalidAddressOnlyFromConstruct : Prop :=
  ∀ (i : Instr) (s t : State) (a : Byte), exec i s = .next t → t.result = some (.err (.invalidAddress a)) →
    (∃ dev bus ch gain mode dr, i = .construct dev bus a ch gain mode dr) ∧ validAddress a = false ∧
    t = { s with result := t.result }

/-- 43_controller.md R113 and R114: WRITECONFIG completes on every controller; it issues one write, to pointer
0x01, of the strobed encoding of the shadow registers; it returns Ok or DeviceUnreachable; no shadow register
changes in either case, and the ghost flag is set by success only (10_state.md R27, D26, log 20). The
numbering, script and record of the transport calls are the model's (log 7). -/
def Obligations.WriteConfigSendsTheStrobedConfiguration : Prop :=
  ∀ (dev : Byte) (c : Controller) (s : State), s.controllerOf dev = some c → validAddress c.addr = true →
    ∃ (t : State) (w : Word16), exec (.writeConfig dev) s = .next t ∧
      w = encodeWord ⟨c.ch, c.gain, c.mode, c.dr⟩ ||| 0x8000 ∧
      t.bus = .write c.bus c.addr 0x01 (w.extractLsb' 8 8) (w.extractLsb' 0 8) (!s.draw.fails) :: s.bus ∧
      t.result = some (if s.draw.fails then .err .deviceUnreachable else .ok .unit) ∧
      t.controllerOf dev = some { c with configured := c.configured || !s.draw.fails } ∧ OthersKept dev s t ∧
      MemoryKeptOutside c.bus c.addr s t ∧ TriggersKeptOutside c.bus c.addr s t ∧
      t.requests = s.requests ∧ t.calls = s.calls + 1 ∧ t.stub = s.stub.tail ∧
      t.taken = (if s.draw.fails && !s.draw.landed then s.taken else (s.calls + 1) :: s.taken)

/-- 43_controller.md R115: SAMPLERAW. Unforced: one read of pointer 0x00 and nothing else. Forced: WRITECONFIG;
if it fails, DeviceUnreachable and no wait and no read; otherwise a wait of `1/SPS(x[DR])` plus the margin, then
one read. The word is returned as it is. No shadow register changes. That `force` alone decides is D18 (log 21);
the early stop, that a read can fail and the ghost flag are D28, D22 and D26 (log 20). `u` is the state after
WRITECONFIG; the read's choices are drawn after the wait. -/
def Obligations.SampleRawWritesWaitsAndReadsOnce : Prop :=
  ∀ (dev : Byte) (c : Controller) (s : State), s.controllerOf dev = some c → validAddress c.addr = true →
    (∃ t, exec (.sampleRaw dev false) s = .next t ∧
      (s.draw.fails = true → t.bus = .readFailed c.bus c.addr 0x00 :: s.bus ∧
        t.result = some (.err .deviceUnreachable)) ∧
      (s.draw.fails = false → t.bus = .read c.bus c.addr 0x00 s.draw.b0 s.draw.b1 :: s.bus ∧
        t.result = some (.ok (.word (joinBytes s.draw.b0 s.draw.b1)))) ∧
      ControllersKept s t ∧ MemoryKept s t ∧ TriggersKept s t ∧ t.requests = s.requests ∧ t.taken = s.taken) ∧
    (∃ (u t : State) (w : Word16) (wait : Rat) (d : Draw),
      exec (.writeConfig dev) s = .next u ∧ exec (.sampleRaw dev true) s = .next t ∧
      w = strobeWord (encodeWord ⟨c.ch, c.gain, c.mode, c.dr⟩) ∧
      wait = 1 / (((spsUnit c.dr.code).toNat : Nat) : Rat) + (Config.waitMargin : Rat) ∧
      d = (u.waits wait).draw ∧
      (s.draw.fails = true →
        t.bus = .write c.bus c.addr 0x01 (hiByte w) (loByte w) false :: s.bus ∧
        t.result = some (.err .deviceUnreachable)) ∧
      (s.draw.fails = false → d.fails = true →
        t.bus = .readFailed c.bus c.addr 0x00 :: .wait wait ::
          .write c.bus c.addr 0x01 (hiByte w) (loByte w) true :: s.bus ∧
        t.result = some (.err .deviceUnreachable)) ∧
      (s.draw.fails = false → d.fails = false →
        t.bus = .read c.bus c.addr 0x00 d.b0 d.b1 :: .wait wait ::
          .write c.bus c.addr 0x01 (hiByte w) (loByte w) true :: s.bus ∧
        t.result = some (.ok (.word (joinBytes d.b0 d.b1)))) ∧
      t.controllers = u.controllers ∧ t.mem = u.mem ∧ t.triggers = u.triggers ∧ t.taken = u.taken ∧
      t.controllerOf dev = some { c with configured := c.configured || !s.draw.fails } ∧ OthersKept dev s t ∧
      MemoryKeptOutside c.bus c.addr s t ∧ TriggersKeptOutside c.bus c.addr s t ∧ t.requests = s.requests)

/-- 43_controller.md R118: SAMPLEVOLTAGE is SAMPLERAW exactly once, with the word it returned scaled by the
stored gain; an error passes unchanged. All else is as SAMPLERAW leaves it. -/
def Obligations.SampleVoltageScalesOneRawSample : Prop :=
  ∀ (dev : Byte) (force : Bool) (c : Controller) (s : State), s.controllerOf dev = some c → validAddress c.addr = true →
    ∃ u t, exec (.sampleRaw dev force) s = .next u ∧ exec (.sampleVoltage dev force) s = .next t ∧
      ((u.result = some (.err .deviceUnreachable) ∧ t = u) ∨
       ∃ (raw : Word16) (v : BitVec 21), u.result = some (.ok (.word raw)) ∧
        t = { u with result := some (.ok (.vout v)) } ∧
        v.toInt * 256 = raw.toInt * ((fsrUnit c.gain.code).toNat : Int))

/-- 43_controller.md R119 (D20) and R114: RECONFIGURE completes; the four shadow registers hold the new values
whether the write succeeds or not, address and transport are kept, and the one write carries the new values. -/
def Obligations.ReconfigureStoresThenWrites : Prop :=
  ∀ (dev : Byte) (ch : ChannelSelector) (gain : GainRange) (mode : OperatingMode) (dr : DataRate) (c : Controller)
    (s : State), s.controllerOf dev = some c → validAddress c.addr = true →
    ∃ (t : State) (w : Word16), exec (.reconfigure dev ch gain mode dr) s = .next t ∧
      w = encodeWord ⟨ch, gain, mode, dr⟩ ||| 0x8000 ∧
      t.bus = .write c.bus c.addr 0x01 (hiByte w) (loByte w) (!s.draw.fails) :: s.bus ∧
      t.result = some (if s.draw.fails then .err .deviceUnreachable else .ok .unit) ∧
      t.controllerOf dev = some ⟨c.addr, ch, gain, mode, dr, c.bus, c.configured || !s.draw.fails⟩ ∧ OthersKept dev s t ∧
      MemoryKeptOutside c.bus c.addr s t ∧ TriggersKeptOutside c.bus c.addr s t ∧ t.requests = s.requests

/-- 43_controller.md R120 (D19): READCONFIG completes; it issues one read, of pointer 0x01; on success it
returns the fields of the word read, which are those in bits 14:5 of the device's configuration register,
whatever the other bits read as (U2, log 9). No shadow register and nothing on the device changes. The calls'
bookkeeping is the model's (log 7). -/
def Obligations.ReadConfigDecodesTheRegister : Prop :=
  ∀ (dev : Byte) (c : Controller) (s : State), s.controllerOf dev = some c → validAddress c.addr = true →
    ∃ t, exec (.readConfig dev) s = .next t ∧
      (s.draw.fails = true → t.bus = .readFailed c.bus c.addr 0x01 :: s.bus ∧
        t.result = some (.err .deviceUnreachable)) ∧
      (s.draw.fails = false → ∃ b0 b1, t.bus = .read c.bus c.addr 0x01 b0 b1 :: s.bus ∧
        t.result = some (.ok (.fields (decodeWord (joinBytes b0 b1)))) ∧
        decodeWord (joinBytes b0 b1) = decodeWord (s.configReg c.bus c.addr)) ∧
      ControllersKept s t ∧ MemoryKept s t ∧ TriggersKept s t ∧
      t.requests = s.requests ∧ t.calls = s.calls + 1 ∧ t.stub = s.stub.tail ∧ t.taken = s.taken

/-- 43_controller.md R126 (D17): WAIT completes from every state and changes no hardware state: only the log of
the transports, which holds its lower bound, and the return to the caller (log 12, 13, 16). -/
def Obligations.WaitChangesNoHardwareState : Prop :=
  ∀ (num den : BitVec 32) (s : State),
    exec (.wait num den) s =
      .next { s with bus := .wait ((num.toNat : Rat) / (den.toNat : Rat)) :: s.bus, result := some (.ok .unit) }

/-- 43_controller.md R116: with the precondition of an unforced sample broken the operation still runs and
returns Ok of whatever the read delivers. -/
def Obligations.UnforcedSampleRunsUnconfigured : Prop :=
  ∀ (dev : Byte) (c : Controller) (s : State), s.controllerOf dev = some c → validAddress c.addr = true →
    c.configured = false → s.draw.fails = false →
    ∃ t, exec (.sampleRaw dev false) s = .next t ∧
      t.result = some (.ok (.word (joinBytes s.draw.b0 s.draw.b1))) ∧ t.controllerOf dev = some c

/-- 10_state.md R20: no operation other than CONSTRUCT can be applied to a controller that does not exist. That
the machine refuses it is the model's choice (log 6). -/
def Obligations.NoOperationWithoutAController : Prop :=
  ∀ (i : Instr) (dev : Byte) (s : State), i.target = some dev → s.controllerOf dev = none →
    exec i s = .refused .noController

/-! ### Rules over all operations -/

/-- 10_state.md R19: only CONSTRUCT and RECONFIGURE write shadow registers, and only those of the controller
they name. -/
def Obligations.OnlyConstructAndReconfigureWriteShadows : Prop :=
  ∀ (i : Instr) (s t : State) (dev : Byte), exec i s = .next t → i.writesShadow ≠ some dev →
    (t.controllerOf dev).map Controller.shadow = (s.controllerOf dev).map Controller.shadow

/-- 60_exceptions.md R143: an operation leaves every controller but the one it names as it was, the ghost flag
included. -/
def Obligations.ControllersAreIndependent : Prop :=
  ∀ (i : Instr) (s t : State) (dev : Byte), exec i s = .next t → i.target ≠ some dev → i.writesShadow ≠ some dev →
    t.controllerOf dev = s.controllerOf dev

/-- 10_state.md R27 (D26, log 20): no operation reads the ghost flag: the result, the transport traffic and the
device are the same whatever it holds. -/
def Obligations.GhostFlagIsNotRead : Prop :=
  ∀ (i : Instr) (s t : State) (dev : Byte) (c : Controller) (flag : Bool),
    s.controllerOf dev = some c → exec i s = .next t →
    ∃ u, exec i (s.setController dev { c with configured := flag }) = .next u ∧
      u.result = t.result ∧ u.bus = t.bus ∧ u.mem = t.mem ∧ u.triggers = t.triggers ∧ u.calls = t.calls ∧
      u.taken = t.taken

/-- 43_controller.md R121: the mode of a controller after an operation is the operand of CONSTRUCT or
RECONFIGURE if the operation is one of these on that controller, the latter whether or not its write
succeeds, and is unchanged by every other operation. -/
def Obligations.ModeIsSetByConstructAndReconfigure : Prop :=
  (∀ (dev bus a : Byte) (ch : ChannelSelector) (gain : GainRange) (mode : OperatingMode) (dr : DataRate) (s t : State),
    exec (.construct dev bus a ch gain mode dr) s = .next t → validAddress a = true →
    (t.controllerOf dev).map Controller.mode = some mode) ∧
  (∀ (dev : Byte) (ch : ChannelSelector) (gain : GainRange) (mode : OperatingMode) (dr : DataRate) (s t : State),
    exec (.reconfigure dev ch gain mode dr) s = .next t →
    (t.controllerOf dev).map Controller.mode = some mode) ∧
  (∀ (i : Instr) (s t : State) (dev : Byte), exec i s = .next t → i.writesShadow ≠ some dev →
    (t.controllerOf dev).map Controller.mode = (s.controllerOf dev).map Controller.mode)

/-- 43_controller.md R124 (the spec's own inference) and R117: what a controller operation does on the
transport: writes of words `w` with `w & 0x801F = 0x8003` to its own device's pointer 0x01, reads of its own
device's pointers 0x00 and 0x01, waits; at most one write and at most one read. -/
def Obligations.ControllerIssuesOnlyItsThreeCalls : Prop :=
  ∀ (i : Instr) (dev : Byte) (c : Controller) (s t : State), i.target = some dev → s.controllerOf dev = some c →
    exec i s = .next t →
    ∃ evs : List BusEvent, t.bus = evs ++ s.bus ∧ (∀ e ∈ evs, e.allowedFor c) ∧
      evs.countP BusEvent.isRead ≤ 1 ∧ evs.countP BusEvent.isWrite ≤ 1

/-- 43_controller.md R125: one failed transport call ends the operation with DeviceUnreachable: nothing
follows it, so nothing is retried; and DeviceUnreachable has no other cause. -/
def Obligations.FailedCallEndsTheOperation : Prop :=
  ∀ (i : Instr) (s t : State) (evs : List BusEvent), exec i s = .next t → t.bus = evs ++ s.bus →
    (∀ e ∈ evs, e.failed = true → evs.head? = some e ∧ t.result = some (.err .deviceUnreachable)) ∧
    (t.result = some (.err .deviceUnreachable) → ∃ e ∈ evs, e.failed = true)

/-- 60_exceptions.md R132: no operation produces UnknownField. -/
def Obligations.UnknownFieldIsNeverProduced : Prop :=
  ∀ (i : Instr) (s t : State), exec i s = .next t → t.result ≠ some (.err .unknownField)

/-- D25 and 43_controller.md R117: every transport call takes exactly one of the environment's choices, and
the log grows by what the operation did. The draws and the log are the model's form (log 7, 12). -/
def Obligations.OneDrawPerTransportCall : Prop :=
  ∀ (i : Instr) (s t : State), exec i s = .next t →
    ∃ evs : List BusEvent, t.bus = evs ++ s.bus ∧ t.calls = s.calls + evs.countP BusEvent.isCall ∧
      t.stub = s.stub.drop (evs.countP BusEvent.isCall)

/-- 60_exceptions.md R139, R140: exactly which operations run to a result. It depends on the controllers and
the operands alone: after any error, on any device state and any answers of the transport, the controller
accepts any operation. That nothing else runs rests on the refusals of R20 (log 6) and D24 (log 18); that WAIT with
denominator zero runs is the model's (log 16). -/
def Obligations.EveryOperationCompletesWhenRunnable : Prop :=
  ∀ (i : Instr) (s : State), runnable i s = true ↔ ∃ t, exec i s = .next t

/-- 20_memory.md R42 (c): a read issued after a successful write observes a device that has received it:
READCONFIG (D19, log 20) after a successful WRITECONFIG returns the stored configuration. Its premise is that no other
master writes the device, which the model has by construction (log 22). -/
def Obligations.ReadBackReturnsTheWrittenConfiguration : Prop :=
  ∀ (dev : Byte) (c : Controller) (s t : State), s.controllerOf dev = some c → validAddress c.addr = true →
    exec (.writeConfig dev) s = .next t → t.result = some (.ok .unit) → t.draw.fails = false →
    ∃ u, exec (.readConfig dev) t = .next u ∧ u.result = some (.ok (.fields ⟨c.ch, c.gain, c.mode, c.dr⟩))

/-- 70_reset_and_hazards.md R156 and R163 (the latter the spec's own inference): the read inside a successful
forced SAMPLERAW or SAMPLEVOLTAGE comes at least `1/SPS` seconds after the write, at the rate in the word
written, and that write was successful and carried the gain the voltage is scaled with. Elapsed time is the sum of
the waits on the log, the calls themselves taking none (log 12, 26). -/
def Obligations.ForcedSampleMeetsTheConversionWait : Prop :=
  ∀ (dev : Byte) (c : Controller) (s t : State) (v : Value) (i : Instr),
    (i = .sampleRaw dev true ∨ i = .sampleVoltage dev true) → s.controllerOf dev = some c →
    exec i s = .next t → t.result = some (.ok v) →
    ∃ (b0 b1 : Byte) (before : List BusEvent),
      t.bus = .read c.bus c.addr 0x00 b0 b1 :: before ∧ readTimely c.bus c.addr before = true ∧
      gainAgrees c.bus c.addr c.gain before = true ∧ lastWriteOk c.bus c.addr before = true

/-! ### The step, the invariant and the requests -/

/-- 10_state.md R21 (D4): a step runs the operation that the caller's next request decodes to, on the state
with that request taken off; with no request nothing happens; what decodes to nothing is refused by name. The
list of requests is the model's form (log 1, 3). -/
def Obligations.StepRunsTheNextRequest : Prop :=
  (∀ (s : State) (r : Request) (rest : List Request) (i : Instr), s.requests = r :: rest → decode r = .ok i →
    step s = exec i { s with requests := rest }) ∧
  (∀ s : State, s.requests = [] → step s = .next s) ∧
  (∀ (s : State) (r : Request) (rest : List Request) (why : DecodeReject), s.requests = r :: rest →
    decode r = .error why → step s = .refused (.badRequest why))

/-- 10_state.md R21 (D4) and 20_memory.md R42: operations run first to last, one a step (log 3). -/
def Obligations.OperationsRunInTheOrderAsked : Prop :=
  ∀ s t : State, step s = .next t → t.requests = s.requests.tail

/-- The start of a run meets the invariant (10_state.md R28). -/
def Obligations.ResetMeetsTheInvariant : Prop := State.reset.Inv

/-- Every step keeps the invariant: memory and the other data in canonical form, every stored ADDR one of the
four addresses (10_state.md R18), only configuration registers written, UnknownField never returned. -/
def Obligations.EveryStepKeepsTheInvariant : Prop :=
  ∀ s t : State, s.Inv → step s = .next t → t.Inv

/-- In a state that meets the invariant every operation on a controller that exists runs to a result, and so
does every step whose request is such an operation (10_state.md R18, 60_exceptions.md R139; log 3). -/
def Obligations.ControllerOperationsNeverStopUnderTheInvariant : Prop :=
  ∀ (s : State) (i : Instr) (dev : Byte) (c : Controller), s.Inv → i.target = some dev →
    s.controllerOf dev = some c →
    (∃ t, exec i s = .next t) ∧
    ∀ (r : Request) (rest : List Request), s.requests = r :: rest → decode r = .ok i → ∃ t, step s = .next t

/-- Decode and encode agree for every well-formed operation. The request form is the model's own (log 1). -/
def Obligations.DecodeOfEncodedRequest : Prop :=
  ∀ i : Instr, i.wellFormed = true → decode (encode i) = .ok i

/-- Every request that decodes is the encoding of what it decodes to, and that is well formed: each request
has one meaning and no bit of it is dropped. The request form is the model's own (log 1). -/
def Obligations.EncodeOfDecodedRequest : Prop :=
  ∀ (r : Request) (i : Instr), decode r = .ok i → encode i = r ∧ i.wellFormed = true

/-- Words written out from the patterns of the operation table and the examples of 30_encoding.md R69 decode to
the operations they stand for; among rows that share a pattern the model's choice (log 2). The last two are no
words of the table but requests in the model's own layout (log 1). -/
def Obligations.TableWordsDecode : Prop :=
  decodeTableWord 16 0b0100001101100011 = some (.encode .ain0Gnd .fsr4096 .singleShot .sps64) ∧
  decodeTableWord 16 0b1100001101100011 = some (.strobe 0xC363) ∧
  decodeTableWord 16 0xFFFF = some (.decode 0xFFFF) ∧
  decodeTableWord 8 0b101 = some (.fsr .fsr256) ∧
  decode ⟨.entryReconfigure, [0xC2, 0xE3, 0x07]⟩ = .ok (.reconfigure 7 .ain0Gnd .fsr4096 .continuous .sps860) ∧
  decode ⟨.unitScl, [0x10, 0x00, 0x01]⟩ = .ok (.raw2v 0x1000 .fsr4096)

/-! ### The caller's contract -/

/-- 70_reset_and_hazards.md R153 steps 3 and 4, R156: a read that the caller's contract calls timely has a write
before it that succeeded and carried the strobe; `1/SPS` seconds passed since, at the rate in its word, and since
every later write to the device as well, failed ones included, which the device may hold (R40). Elapsed time is
the sum of the waits on the log (log 12, 26). -/
def Obligations.TimelyReadFollowsASuccessfulWrite : Prop :=
  ∀ (bus a : Byte) (evs : List BusEvent), readTimely bus a evs = true →
    ∃ (newer older : List BusEvent) (b0 b1 : Byte),
      evs = newer ++ .write bus a 0x01 b0 b1 true :: older ∧ (joinBytes b0 b1).getLsbD 15 = true ∧
      minWait (decodeWord (joinBytes b0 b1)).dr ≤ waited newer ∧
      ∀ (newest between : List BusEvent) (c0 c1 : Byte) (ok : Bool),
        newer = newest ++ .write bus a 0x01 c0 c1 ok :: between →
        minWait (decodeWord (joinBytes c0 c1)).dr ≤ waited newest
end

