-- ==== Sys2Proof/Laws/Assoc.lean ====
section
/-! SUPPORT. The laws of data by key: what is read after a write, and that a write keeps the canonical form. -/

namespace Sys2Proof.Machine

variable {α : Type}

@[simp] theorem Assoc.get_set_same (l : List (Nat × α)) (key : Nat) (v : α) :
    Assoc.get (Assoc.set l key v) key = some v := by
  induction l with
  | nil => simp [Assoc.set, Assoc.get]
  | cons e rest ih =>
    obtain ⟨k, u⟩ := e
    simp only [Assoc.set]
    split
    · simp [Assoc.get]
    · split
      · simp [Assoc.get]
      · rename_i h
        simp [Assoc.get, ih, Ne.symm h]

theorem Assoc.get_set_other (l : List (Nat × α)) {key other : Nat} (v : α) (h : other ≠ key) :
    Assoc.get (Assoc.set l key v) other = Assoc.get l other := by
  induction l with
  | nil => simp [Assoc.set, Assoc.get, Ne.symm h]
  | cons e rest ih =>
    obtain ⟨k, u⟩ := e
    simp only [Assoc.set]
    split
    · simp [Assoc.get, Ne.symm h]
    · split
      · rename_i heq
        subst heq
        simp [Assoc.get, Ne.symm h]
      · simp [Assoc.get, ih]

theorem Assoc.set_eq_cons (l : List (Nat × α)) (key : Nat) (v : α) :
    ∃ k u rest, Assoc.set l key v = (k, u) :: rest ∧ (k = key ∨ ∃ u' rest', l = (k, u') :: rest') := by
  cases l with
  | nil => exact ⟨key, v, [], rfl, .inl rfl⟩
  | cons e rest =>
    obtain ⟨k, u⟩ := e
    simp only [Assoc.set]
    split
    · exact ⟨key, v, _, rfl, .inl rfl⟩
    · split
      · exact ⟨key, v, _, rfl, .inl rfl⟩
      · exact ⟨k, u, _, rfl, .inr ⟨u, rest, rfl⟩⟩

theorem Assoc.sorted_tail {e : Nat × α} {l : List (Nat × α)} (h : Assoc.sorted (e :: l) = true) :
    Assoc.sorted l = true := by
  cases l with
  | nil => rfl
  | cons f rest =>
    obtain ⟨k, u⟩ := e
    obtain ⟨k', u'⟩ := f
    simp only [Assoc.sorted, Bool.and_eq_true] at h
    exact h.2

/-- A write keeps the canonical form. -/
theorem Assoc.sorted_set (l : List (Nat × α)) (key : Nat) (v : α) (h : Assoc.sorted l = true) :
    Assoc.sorted (Assoc.set l key v) = true := by
  induction l with
  | nil => rfl
  | cons e rest ih =>
    obtain ⟨k, u⟩ := e
    have hrest := ih (Assoc.sorted_tail h)
    simp only [Assoc.set]
    split
    · rename_i hlt
      simp [Assoc.sorted, hlt, h]
    · split
      · rename_i heq
        subst heq
        cases rest with
        | nil => rfl
        | cons f rest' =>
          obtain ⟨k', u'⟩ := f
          simpa [Assoc.sorted] using h
      · rename_i h1 h2
        obtain ⟨k', u', rest', hset, hk⟩ := Assoc.set_eq_cons rest key v
        rw [hset] at hrest ⊢
        have hlt : k < k' := by
          rcases hk with rfl | ⟨u'', rest'', rfl⟩
          · omega
          · simp only [Assoc.sorted, Bool.and_eq_true, decide_eq_true_eq] at h
            exact h.1
        simp [Assoc.sorted, hlt, hrest]

/-- What holds of every entry still holds after a write of an entry it holds of. -/
theorem Assoc.all_set (p : Nat → α → Bool) (l : List (Nat × α)) (key : Nat) (v : α)
    (h : Assoc.all p l = true) (hv : p key v = true) : Assoc.all p (Assoc.set l key v) = true := by
  induction l with
  | nil => simpa [Assoc.all, Assoc.set] using hv
  | cons e rest ih =>
    obtain ⟨k, u⟩ := e
    simp only [Assoc.all, List.all_cons, Bool.and_eq_true] at h ih
    simp only [Assoc.set]
    split
    · simp [Assoc.all, hv, h.1, h.2]
    · split
      · simp [Assoc.all, hv, h.2]
      · simp only [Assoc.all, List.all_cons, Bool.and_eq_true]
        exact ⟨h.1, ih h.2⟩

/-- What holds of every entry holds of an entry that is read. -/
theorem Assoc.of_get (p : Nat → α → Bool) (l : List (Nat × α)) (key : Nat) (v : α)
    (h : Assoc.all p l = true) (hg : Assoc.get l key = some v) : p key v = true := by
  induction l with
  | nil => simp [Assoc.get] at hg
  | cons e rest ih =>
    obtain ⟨k, u⟩ := e
    simp only [Assoc.all, List.all_cons, Bool.and_eq_true] at h ih
    simp only [Assoc.get] at hg
    split at hg
    · rename_i heq
      subst heq
      cases hg
      exact h.1
    · exact ih h.2 hg

/-- A write of memory keeps the canonical form. -/
theorem Memory.wf_set (m : List Host.Cell) (key : Nat) (b : Byte) (h : Memory.wf m = true) :
    Memory.wf (Assoc.set m key b) = true := Assoc.sorted_set m key b h

end Sys2Proof.Machine
end

