-- ==== Sys2Proof/Laws/Operands.lean ====
section
/-! SUPPORT. The codes are bijections (30_encoding.md R72), and a word is its two bytes (R68). -/

namespace Sys2Proof

/-- A statement about every 3-bit code holds if it holds of the eight. -/
theorem Code3.cases {p : Code3 → Prop} (h0 : p 0) (h1 : p 1) (h2 : p 2) (h3 : p 3) (h4 : p 4) (h5 : p 5) (h6 : p 6)
    (h7 : p 7) (c : Code3) : p c := by
  obtain ⟨⟨n, hn⟩⟩ := c
  have : n < 8 := hn
  interval_cases n <;> assumption

/-- A statement about every 1-bit code holds if it holds of the two. -/
theorem Code1.cases {p : Code1 → Prop} (h0 : p 0) (h1 : p 1) (c : Code1) : p c := by
  obtain ⟨⟨n, hn⟩⟩ := c
  have : n < 2 := hn
  interval_cases n <;> assumption

@[simp] theorem ChannelSelector.ofCode_code (ch : ChannelSelector) : ChannelSelector.ofCode ch.code = ch := by
  cases ch <;> rfl
@[simp] theorem GainRange.ofCode_code (gain : GainRange) : GainRange.ofCode gain.code = gain := by
  cases gain <;> rfl
@[simp] theorem OperatingMode.ofCode_code (mode : OperatingMode) : OperatingMode.ofCode mode.code = mode := by
  cases mode <;> rfl
@[simp] theorem DataRate.ofCode_code (dr : DataRate) : DataRate.ofCode dr.code = dr := by
  cases dr <;> rfl

@[simp] theorem ChannelSelector.code_ofCode (c : Code3) : (ChannelSelector.ofCode c).code = c := by
  revert c; exact Code3.cases rfl rfl rfl rfl rfl rfl rfl rfl
@[simp] theorem GainRange.code_ofCode (c : Code3) : (GainRange.ofCode c).code = c := by
  revert c; exact Code3.cases rfl rfl rfl rfl rfl rfl rfl rfl
@[simp] theorem OperatingMode.code_ofCode (c : Code1) : (OperatingMode.ofCode c).code = c := by
  revert c; exact Code1.cases rfl rfl
@[simp] theorem DataRate.code_ofCode (c : Code3) : (DataRate.ofCode c).code = c := by
  revert c; exact Code3.cases rfl rfl rfl rfl rfl rfl rfl rfl

theorem ChannelSelector.ofCode_inj {c c' : Code3} (h : ChannelSelector.ofCode c = ChannelSelector.ofCode c') : c = c' := by
  simpa using congrArg ChannelSelector.code h
theorem GainRange.ofCode_inj {c c' : Code3} (h : GainRange.ofCode c = GainRange.ofCode c') : c = c' := by
  simpa using congrArg GainRange.code h
theorem OperatingMode.ofCode_inj {c c' : Code1} (h : OperatingMode.ofCode c = OperatingMode.ofCode c') : c = c' := by
  simpa using congrArg OperatingMode.code h
theorem DataRate.ofCode_inj {c c' : Code3} (h : DataRate.ofCode c = DataRate.ofCode c') : c = c' := by
  simpa using congrArg DataRate.code h

/-! ### Bytes of a word -/

theorem hiByte_eq_extract (v : Word16) : hiByte v = v.extractLsb' 8 8 := by
  ext i hi
  simp [hiByte]

theorem loByte_eq_extract (v : Word16) : loByte v = v.extractLsb' 0 8 := by
  ext i hi
  simp [loByte]

@[simp] theorem joinBytes_hi_lo (v : Word16) : joinBytes (hiByte v) (loByte v) = v := by
  ext i hi
  by_cases h : i < 8
  · simp [joinBytes, hiByte, loByte, h, BitVec.getLsbD_eq_getElem hi]
  · have h1 : i - 8 < 8 := by omega
    have h2 : 8 + (i - 8) = i := by omega
    simp [joinBytes, hiByte, loByte, h, h1, h2, BitVec.getLsbD_eq_getElem hi]

@[simp] theorem hiByte_joinBytes (b0 b1 : Byte) : hiByte (joinBytes b0 b1) = b0 := by
  ext i hi
  have h1 : 8 + i < 16 := by omega
  have h2 : ¬ 8 + i < 8 := by omega
  simp [joinBytes, hiByte, h1, BitVec.getLsbD_eq_getElem hi]

@[simp] theorem loByte_joinBytes (b0 b1 : Byte) : loByte (joinBytes b0 b1) = b1 := by
  ext i hi
  simp [joinBytes, loByte]

theorem joinBytes_toNat (b0 b1 : Byte) : (joinBytes b0 b1).toNat = b0.toNat * 256 + b1.toNat := by
  have h0 := b0.isLt
  have h1 := b1.isLt
  have hs : b0.toNat <<< 8 % 65536 = 2 ^ 8 * b0.toNat := by
    rw [Nat.shiftLeft_eq]; omega
  simp only [joinBytes, BitVec.toNat_or, BitVec.toNat_shiftLeft, BitVec.toNat_setWidth]
  rw [Nat.mod_eq_of_lt (by omega : b0.toNat < 2 ^ 16), Nat.mod_eq_of_lt (by omega : b1.toNat < 2 ^ 16), hs,
    ← Nat.two_pow_add_eq_or_of_lt h1]
  omega

/-! ### Fields of a word -/

theorem extractCh_eq_extract (w : Word16) : extractCh w = w.extractLsb' 12 3 := by
  ext i hi
  have : i = 0 ∨ i = 1 ∨ i = 2 := by omega
  rcases this with rfl | rfl | rfl <;> simp [extractCh, chMask]

theorem extractGain_eq_extract (w : Word16) : extractGain w = w.extractLsb' 9 3 := by
  ext i hi
  have : i = 0 ∨ i = 1 ∨ i = 2 := by omega
  rcases this with rfl | rfl | rfl <;> simp [extractGain, gainMask]

theorem extractMode_eq_extract (w : Word16) : extractMode w = w.extractLsb' 8 1 := by
  ext i hi
  have : i = 0 := by omega
  subst this
  simp [extractMode, modeMask]

theorem extractDr_eq_extract (w : Word16) : extractDr w = w.extractLsb' 5 3 := by
  ext i hi
  have : i = 0 ∨ i = 1 ∨ i = 2 := by omega
  rcases this with rfl | rfl | rfl <;> simp [extractDr, drMask]

/-- The bits of a packed word, one by one (30_encoding.md R50). -/
theorem insertFields_getLsbD (ch gain : Code3) (mode : Code1) (dr : Code3) (i : Nat) :
    (insertFields ch gain mode dr).getLsbD i =
      (if i < 2 then true else if i < 5 then false else if i < 8 then dr.getLsbD (i - 5)
       else if i < 9 then mode.getLsbD (i - 8) else if i < 12 then gain.getLsbD (i - 9)
       else if i < 15 then ch.getLsbD (i - 12) else false) := by
  by_cases h : i < 16
  · interval_cases i <;> simp [insertFields, lowFixed]
  · rw [BitVec.getLsbD_of_ge _ _ (by omega)]
    simp [show ¬ i < 2 by omega, show ¬ i < 5 by omega, show ¬ i < 8 by omega, show ¬ i < 9 by omega,
      show ¬ i < 12 by omega, show ¬ i < 15 by omega]

/-- The same in the form in which simp writes a bit. -/
theorem insertFields_getElem (ch gain : Code3) (mode : Code1) (dr : Code3) {i : Nat} (h : i < 16) :
    (insertFields ch gain mode dr)[i] =
      (if i < 2 then true else if i < 5 then false else if i < 8 then dr.getLsbD (i - 5)
       else if i < 9 then mode.getLsbD (i - 8) else if i < 12 then gain.getLsbD (i - 9)
       else if i < 15 then ch.getLsbD (i - 12) else false) := by
  rw [← insertFields_getLsbD, BitVec.getLsbD_eq_getElem h]

end Sys2Proof
end

