-- ==== Sys2Proof/Laws/Scale.lean ====
section
/-! SUPPORT. The tables row by row, and that a minimum wait is positive. -/

namespace Sys2Proof.Machine

@[simp] theorem spsOf_sps8 : spsOf .sps8 = 8 := rfl
@[simp] theorem spsOf_sps16 : spsOf .sps16 = 16 := rfl
@[simp] theorem spsOf_sps32 : spsOf .sps32 = 32 := rfl
@[simp] theorem spsOf_sps64 : spsOf .sps64 = 64 := rfl
@[simp] theorem spsOf_sps128 : spsOf .sps128 = 128 := rfl
@[simp] theorem spsOf_sps250 : spsOf .sps250 = 250 := rfl
@[simp] theorem spsOf_sps475 : spsOf .sps475 = 475 := rfl
@[simp] theorem spsOf_sps860 : spsOf .sps860 = 860 := rfl

/-- Every full-scale value is a positive multiple of 256 (42_scale.md R103). -/
theorem fsrUnit_eq_mul (gain : GainRange) :
    ∃ k : Nat, 1 ≤ k ∧ k ≤ 24 ∧ (fsrUnit gain.code).toNat = k * 256 := by
  cases gain
  exacts [⟨24, by decide⟩, ⟨16, by decide⟩, ⟨8, by decide⟩, ⟨4, by decide⟩, ⟨2, by decide⟩, ⟨1, by decide⟩,
    ⟨1, by decide⟩, ⟨1, by decide⟩]

theorem spsOf_pos (dr : DataRate) : 0 < spsOf dr := by cases dr <;> decide

theorem minWait_nonneg (dr : DataRate) : 0 ≤ minWait dr := by
  unfold minWait
  positivity

/-- The forced wait is at least the conversion period (43_controller.md R126). -/
theorem minWait_le_forced (dr : DataRate) : minWait dr ≤ minWait dr + (Config.waitMargin : Rat) := by
  have := Config.waitMargin.coe_nonneg
  linarith

end Sys2Proof.Machine
end

