-- ==== Sys2Proof/Laws/Contract.lean ====
section
/-! SUPPORT. The caller's contract, event by event. -/

namespace Sys2Proof.Machine

variable (bus a : Byte) (evs : List BusEvent)

@[simp] theorem window_nil : window bus a [] = none := rfl

@[simp] theorem window_wait (t : Rat) : window bus a (.wait t :: evs) = (window bus a evs).map fun v => v.later t := rfl

@[simp] theorem window_readFailed (b a' p : Byte) : window bus a (.readFailed b a' p :: evs) = window bus a evs := rfl

/-- A successful strobed write opens the window anew. -/
theorem window_write_ok {b0 b1 : Byte} (h : (joinBytes b0 b1).getLsbD 15 = true) :
    window bus a (.write bus a ptrConfig b0 b1 true :: evs) = some ⟨[(0, joinBytes b0 b1)], none⟩ := by
  simp [window, h]

/-- A failed write joins the window, and opens none. -/
@[simp] theorem window_write_failed (b0 b1 : Byte) :
    window bus a (.write bus a ptrConfig b0 b1 false :: evs) =
      (window bus a evs).map fun v => v.push (joinBytes b0 b1) := by
  simp [window]

/-- A write without the strobe joins the window, and opens none. -/
theorem window_write_unstrobed {b0 b1 : Byte} (ok : Bool) (h : (joinBytes b0 b1).getLsbD 15 = false) :
    window bus a (.write bus a ptrConfig b0 b1 ok :: evs) =
      (window bus a evs).map fun v => v.push (joinBytes b0 b1) := by
  simp only [window, h, Bool.and_false, Bool.false_eq_true, if_false, and_self, if_true]

@[simp] theorem waited_nil : waited [] = 0 := rfl

@[simp] theorem waited_wait (t : Rat) : waited (.wait t :: evs) = waited evs + t := rfl

/-- Without a window no read is timely. -/
theorem readTimely_none {bus a : Byte} {evs : List BusEvent} (h : window bus a evs = none) :
    readTimely bus a evs = false := by
  simp [readTimely, conversionWaitMet, h]

/-- A read is timely once the wait of a successful strobed write has passed. -/
theorem readTimely_after_write {b0 b1 : Byte} {t : Rat} (h : (joinBytes b0 b1).getLsbD 15 = true)
    (ht : minWait (.ofCode (extractDr (joinBytes b0 b1))) ≤ t) :
    readTimely bus a (.wait t :: .write bus a ptrConfig b0 b1 true :: evs) = true := by
  simp [readTimely, conversionWaitMet, spacingMet, window_write_ok _ _ _ h, Window.later, ht]

end Sys2Proof.Machine
end

