-- ==== Sys2Proof/Laws/State.lean ====
section
/-! SUPPORT. One lemma per field per update of the state. -/

namespace Sys2Proof.Machine

variable (s : State)

/-! ### returns -/

@[simp] theorem State.returns_controllers (v : Value) : (s.returns v).controllers = s.controllers := rfl
@[simp] theorem State.returns_mem (v : Value) : (s.returns v).mem = s.mem := rfl
@[simp] theorem State.returns_triggers (v : Value) : (s.returns v).triggers = s.triggers := rfl
@[simp] theorem State.returns_requests (v : Value) : (s.returns v).requests = s.requests := rfl
@[simp] theorem State.returns_stub (v : Value) : (s.returns v).stub = s.stub := rfl
@[simp] theorem State.returns_calls (v : Value) : (s.returns v).calls = s.calls := rfl
@[simp] theorem State.returns_bus (v : Value) : (s.returns v).bus = s.bus := rfl
@[simp] theorem State.returns_result (v : Value) : (s.returns v).result = some (.ok v) := rfl
@[simp] theorem State.returns_taken (v : Value) : (s.returns v).taken = s.taken := rfl

/-! ### raises -/

@[simp] theorem State.raises_controllers (e : ErrorKind) : (s.raises e).controllers = s.controllers := rfl
@[simp] theorem State.raises_mem (e : ErrorKind) : (s.raises e).mem = s.mem := rfl
@[simp] theorem State.raises_triggers (e : ErrorKind) : (s.raises e).triggers = s.triggers := rfl
@[simp] theorem State.raises_requests (e : ErrorKind) : (s.raises e).requests = s.requests := rfl
@[simp] theorem State.raises_stub (e : ErrorKind) : (s.raises e).stub = s.stub := rfl
@[simp] theorem State.raises_calls (e : ErrorKind) : (s.raises e).calls = s.calls := rfl
@[simp] theorem State.raises_bus (e : ErrorKind) : (s.raises e).bus = s.bus := rfl
@[simp] theorem State.raises_result (e : ErrorKind) : (s.raises e).result = some (.err e) := rfl
@[simp] theorem State.raises_taken (e : ErrorKind) : (s.raises e).taken = s.taken := rfl

/-! ### writeByte -/

@[simp] theorem State.writeByte_controllers (k : Nat) (b : Byte) : (s.writeByte k b).controllers = s.controllers := rfl
@[simp] theorem State.writeByte_mem (k : Nat) (b : Byte) : (s.writeByte k b).mem = Assoc.set s.mem k b := rfl
@[simp] theorem State.writeByte_triggers (k : Nat) (b : Byte) : (s.writeByte k b).triggers = s.triggers := rfl
@[simp] theorem State.writeByte_requests (k : Nat) (b : Byte) : (s.writeByte k b).requests = s.requests := rfl
@[simp] theorem State.writeByte_stub (k : Nat) (b : Byte) : (s.writeByte k b).stub = s.stub := rfl
@[simp] theorem State.writeByte_calls (k : Nat) (b : Byte) : (s.writeByte k b).calls = s.calls := rfl
@[simp] theorem State.writeByte_bus (k : Nat) (b : Byte) : (s.writeByte k b).bus = s.bus := rfl
@[simp] theorem State.writeByte_result (k : Nat) (b : Byte) : (s.writeByte k b).result = s.result := rfl
@[simp] theorem State.writeByte_taken (k : Nat) (b : Byte) : (s.writeByte k b).taken = s.taken := rfl

/-! ### trigger -/

@[simp] theorem State.trigger_controllers (bus a : Byte) (w : Word16) : (s.trigger bus a w).controllers = s.controllers := by unfold State.trigger; split <;> rfl
@[simp] theorem State.trigger_mem (bus a : Byte) (w : Word16) : (s.trigger bus a w).mem = s.mem := by unfold State.trigger; split <;> rfl
@[simp] theorem State.trigger_requests (bus a : Byte) (w : Word16) : (s.trigger bus a w).requests = s.requests := by unfold State.trigger; split <;> rfl
@[simp] theorem State.trigger_stub (bus a : Byte) (w : Word16) : (s.trigger bus a w).stub = s.stub := by unfold State.trigger; split <;> rfl
@[simp] theorem State.trigger_calls (bus a : Byte) (w : Word16) : (s.trigger bus a w).calls = s.calls := by unfold State.trigger; split <;> rfl
@[simp] theorem State.trigger_bus (bus a : Byte) (w : Word16) : (s.trigger bus a w).bus = s.bus := by unfold State.trigger; split <;> rfl
@[simp] theorem State.trigger_result (bus a : Byte) (w : Word16) : (s.trigger bus a w).result = s.result := by unfold State.trigger; split <;> rfl
@[simp] theorem State.trigger_taken (bus a : Byte) (w : Word16) : (s.trigger bus a w).taken = s.taken := by unfold State.trigger; split <;> rfl

/-! ### noteTaken -/

@[simp] theorem State.noteTaken_controllers : s.noteTaken.controllers = s.controllers := rfl
@[simp] theorem State.noteTaken_mem : s.noteTaken.mem = s.mem := rfl
@[simp] theorem State.noteTaken_triggers : s.noteTaken.triggers = s.triggers := rfl
@[simp] theorem State.noteTaken_requests : s.noteTaken.requests = s.requests := rfl
@[simp] theorem State.noteTaken_stub : s.noteTaken.stub = s.stub := rfl
@[simp] theorem State.noteTaken_calls : s.noteTaken.calls = s.calls := rfl
@[simp] theorem State.noteTaken_bus : s.noteTaken.bus = s.bus := rfl
@[simp] theorem State.noteTaken_result : s.noteTaken.result = s.result := rfl
@[simp] theorem State.noteTaken_taken : s.noteTaken.taken = s.calls :: s.taken := rfl

/-! ### deviceTakes -/

@[simp] theorem State.deviceTakes_controllers (bus a : Byte) (w : Word16) : (s.deviceTakes bus a w).controllers = s.controllers := by simp [State.deviceTakes]
@[simp] theorem State.deviceTakes_requests (bus a : Byte) (w : Word16) : (s.deviceTakes bus a w).requests = s.requests := by simp [State.deviceTakes]
@[simp] theorem State.deviceTakes_stub (bus a : Byte) (w : Word16) : (s.deviceTakes bus a w).stub = s.stub := by simp [State.deviceTakes]
@[simp] theorem State.deviceTakes_calls (bus a : Byte) (w : Word16) : (s.deviceTakes bus a w).calls = s.calls := by simp [State.deviceTakes]
@[simp] theorem State.deviceTakes_bus (bus a : Byte) (w : Word16) : (s.deviceTakes bus a w).bus = s.bus := by simp [State.deviceTakes]
@[simp] theorem State.deviceTakes_result (bus a : Byte) (w : Word16) : (s.deviceTakes bus a w).result = s.result := by simp [State.deviceTakes]
@[simp] theorem State.deviceTakes_taken (bus a : Byte) (w : Word16) : (s.deviceTakes bus a w).taken = s.calls :: s.taken := by simp [State.deviceTakes]

/-! ### spend -/

@[simp] theorem State.spend_controllers : s.spend.controllers = s.controllers := rfl
@[simp] theorem State.spend_mem : s.spend.mem = s.mem := rfl
@[simp] theorem State.spend_triggers : s.spend.triggers = s.triggers := rfl
@[simp] theorem State.spend_requests : s.spend.requests = s.requests := rfl
@[simp] theorem State.spend_stub : s.spend.stub = s.stub.tail := rfl
@[simp] theorem State.spend_calls : s.spend.calls = s.calls + 1 := rfl
@[simp] theorem State.spend_bus : s.spend.bus = s.bus := rfl
@[simp] theorem State.spend_result : s.spend.result = s.result := rfl
@[simp] theorem State.spend_taken : s.spend.taken = s.taken := rfl

/-! ### log -/

@[simp] theorem State.log_controllers (e : BusEvent) : (s.log e).controllers = s.controllers := rfl
@[simp] theorem State.log_mem (e : BusEvent) : (s.log e).mem = s.mem := rfl
@[simp] theorem State.log_triggers (e : BusEvent) : (s.log e).triggers = s.triggers := rfl
@[simp] theorem State.log_requests (e : BusEvent) : (s.log e).requests = s.requests := rfl
@[simp] theorem State.log_stub (e : BusEvent) : (s.log e).stub = s.stub := rfl
@[simp] theorem State.log_calls (e : BusEvent) : (s.log e).calls = s.calls := rfl
@[simp] theorem State.log_bus (e : BusEvent) : (s.log e).bus = e :: s.bus := rfl
@[simp] theorem State.log_result (e : BusEvent) : (s.log e).result = s.result := rfl
@[simp] theorem State.log_taken (e : BusEvent) : (s.log e).taken = s.taken := rfl

/-! ### waits -/

@[simp] theorem State.waits_controllers (t : Rat) : (s.waits t).controllers = s.controllers := rfl
@[simp] theorem State.waits_mem (t : Rat) : (s.waits t).mem = s.mem := rfl
@[simp] theorem State.waits_triggers (t : Rat) : (s.waits t).triggers = s.triggers := rfl
@[simp] theorem State.waits_requests (t : Rat) : (s.waits t).requests = s.requests := rfl
@[simp] theorem State.waits_stub (t : Rat) : (s.waits t).stub = s.stub := rfl
@[simp] theorem State.waits_calls (t : Rat) : (s.waits t).calls = s.calls := rfl
@[simp] theorem State.waits_bus (t : Rat) : (s.waits t).bus = .wait t :: s.bus := rfl
@[simp] theorem State.waits_result (t : Rat) : (s.waits t).result = s.result := rfl
@[simp] theorem State.waits_taken (t : Rat) : (s.waits t).taken = s.taken := rfl

/-! ### setController -/

@[simp] theorem State.setController_controllers (dev : Byte) (c : Controller) : (s.setController dev c).controllers = Assoc.set s.controllers dev.toNat c := rfl
@[simp] theorem State.setController_mem (dev : Byte) (c : Controller) : (s.setController dev c).mem = s.mem := rfl
@[simp] theorem State.setController_triggers (dev : Byte) (c : Controller) : (s.setController dev c).triggers = s.triggers := rfl
@[simp] theorem State.setController_requests (dev : Byte) (c : Controller) : (s.setController dev c).requests = s.requests := rfl
@[simp] theorem State.setController_stub (dev : Byte) (c : Controller) : (s.setController dev c).stub = s.stub := rfl
@[simp] theorem State.setController_calls (dev : Byte) (c : Controller) : (s.setController dev c).calls = s.calls := rfl
@[simp] theorem State.setController_bus (dev : Byte) (c : Controller) : (s.setController dev c).bus = s.bus := rfl
@[simp] theorem State.setController_result (dev : Byte) (c : Controller) : (s.setController dev c).result = s.result := rfl
@[simp] theorem State.setController_taken (dev : Byte) (c : Controller) : (s.setController dev c).taken = s.taken := rfl

/-! ### markConfigured -/

@[simp] theorem State.markConfigured_mem (dev : Byte) : (s.markConfigured dev).mem = s.mem := by unfold State.markConfigured; split <;> rfl
@[simp] theorem State.markConfigured_triggers (dev : Byte) : (s.markConfigured dev).triggers = s.triggers := by unfold State.markConfigured; split <;> rfl
@[simp] theorem State.markConfigured_requests (dev : Byte) : (s.markConfigured dev).requests = s.requests := by unfold State.markConfigured; split <;> rfl
@[simp] theorem State.markConfigured_stub (dev : Byte) : (s.markConfigured dev).stub = s.stub := by unfold State.markConfigured; split <;> rfl
@[simp] theorem State.markConfigured_calls (dev : Byte) : (s.markConfigured dev).calls = s.calls := by unfold State.markConfigured; split <;> rfl
@[simp] theorem State.markConfigured_bus (dev : Byte) : (s.markConfigured dev).bus = s.bus := by unfold State.markConfigured; split <;> rfl
@[simp] theorem State.markConfigured_result (dev : Byte) : (s.markConfigured dev).result = s.result := by unfold State.markConfigured; split <;> rfl
@[simp] theorem State.markConfigured_taken (dev : Byte) : (s.markConfigured dev).taken = s.taken := by unfold State.markConfigured; split <;> rfl

/-! ### accept -/

@[simp] theorem State.accept_controllers : s.accept.controllers = s.controllers := rfl
@[simp] theorem State.accept_mem : s.accept.mem = s.mem := rfl
@[simp] theorem State.accept_triggers : s.accept.triggers = s.triggers := rfl
@[simp] theorem State.accept_requests : s.accept.requests = s.requests.tail := rfl
@[simp] theorem State.accept_stub : s.accept.stub = s.stub := rfl
@[simp] theorem State.accept_calls : s.accept.calls = s.calls := rfl
@[simp] theorem State.accept_bus : s.accept.bus = s.bus := rfl
@[simp] theorem State.accept_result : s.accept.result = s.result := rfl
@[simp] theorem State.accept_taken : s.accept.taken = s.taken := rfl

/-! ### enqueueFirst -/

@[simp] theorem State.enqueueFirst_controllers (r : Request) : (s.enqueueFirst r).controllers = s.controllers := rfl
@[simp] theorem State.enqueueFirst_mem (r : Request) : (s.enqueueFirst r).mem = s.mem := rfl
@[simp] theorem State.enqueueFirst_triggers (r : Request) : (s.enqueueFirst r).triggers = s.triggers := rfl
@[simp] theorem State.enqueueFirst_requests (r : Request) : (s.enqueueFirst r).requests = r :: s.requests := rfl
@[simp] theorem State.enqueueFirst_stub (r : Request) : (s.enqueueFirst r).stub = s.stub := rfl
@[simp] theorem State.enqueueFirst_calls (r : Request) : (s.enqueueFirst r).calls = s.calls := rfl
@[simp] theorem State.enqueueFirst_bus (r : Request) : (s.enqueueFirst r).bus = s.bus := rfl
@[simp] theorem State.enqueueFirst_result (r : Request) : (s.enqueueFirst r).result = s.result := rfl
@[simp] theorem State.enqueueFirst_taken (r : Request) : (s.enqueueFirst r).taken = s.taken := rfl

end Sys2Proof.Machine
end

