-- ==== Sys2Proof/Laws/Ops.lean ====
section
/-! SUPPORT. One lemma per shared operation: everything it can do. -/

namespace Sys2Proof.Machine

/-! ### Composition -/

@[simp] theorem Reply.andThen_ok {α β : Type} (s : State) (a : α) (f : α → State → Reply β) :
    Reply.andThen (.next (s, .ok a)) f = f a s := rfl
@[simp] theorem Reply.andThen_error {α β : Type} (s : State) (e : ErrorKind) (f : α → State → Reply β) :
    Reply.andThen (.next (s, .error e)) f = .next (s, .error e) := rfl
@[simp] theorem Reply.andThen_refused {α β : Type} (r : Refusal) (f : α → State → Reply β) :
    Reply.andThen (.refused r) f = .refused r := rfl
@[simp] theorem Reply.finish_ok {α : Type} (s : State) (a : α) (v : α → Value) :
    Reply.finish (.next (s, .ok a)) v = .next (s.returns (v a)) := rfl
@[simp] theorem Reply.finish_error {α : Type} (s : State) (e : ErrorKind) (v : α → Value) :
    Reply.finish (.next (s, .error e)) v = .next (s.raises e) := rfl
@[simp] theorem Reply.finish_refused {α : Type} (r : Refusal) (v : α → Value) :
    Reply.finish (.refused r) v = .refused r := rfl

/-- Sequencing is associative. -/
theorem Reply.andThen_assoc {α β γ : Type} (r : Reply α) (f : α → State → Reply β) (g : β → State → Reply γ) :
    (r.andThen f).andThen g = r.andThen fun a s => (f a s).andThen g := by
  rcases r with ⟨s, a | e⟩ | x | x <;> rfl

/-- A finished operation that answers next ended with a value or an error. -/
theorem Reply.finish_next {α : Type} {r : Reply α} {v : α → Value} {t : State} (h : r.finish v = .next t) :
    (∃ u a, r = .next (u, .ok a) ∧ t = u.returns (v a)) ∨ (∃ u e, r = .next (u, .error e) ∧ t = u.raises e) := by
  unfold Reply.finish at h
  split at h
  · cases h; exact .inl ⟨_, _, rfl, rfl⟩
  · cases h; exact .inr ⟨_, _, rfl, rfl⟩
  · cases h
  · cases h

/-- What a composition can answer. -/
theorem Reply.andThen_next {α β : Type} {r : Reply α} {f : α → State → Reply β} {u : State × Except ErrorKind β}
    (h : r.andThen f = .next u) :
    (∃ s a, r = .next (s, .ok a) ∧ f a s = .next u) ∨ (∃ s e, r = .next (s, .error e) ∧ u = (s, .error e)) := by
  unfold Reply.andThen at h
  split at h
  · exact .inl ⟨_, _, rfl, h⟩
  · cases h; exact .inr ⟨_, _, rfl, rfl⟩
  · cases h
  · cases h

/-! ### Draws, memory and controllers under the updates -/

/-- The draw depends on the script of the test bench and on the history. -/
theorem State.draw_congr {s t : State} (h1 : t.stub = s.stub) (h2 : t.bus = s.bus) (h3 : t.taken = s.taken) :
    t.draw = s.draw := by
  unfold State.draw State.history; rw [h1, h2, h3]

theorem State.readByte_congr {s t : State} (h : t.mem = s.mem) (key : Nat) : t.readByte key = s.readByte key := by
  unfold State.readByte; rw [h]

theorem State.configReg_congr {s t : State} (h : t.mem = s.mem) (bus a : Byte) : t.configReg bus a = s.configReg bus a := by
  unfold State.configReg; rw [State.readByte_congr h, State.readByte_congr h]

theorem State.triggerCount_congr {s t : State} (h : t.triggers = s.triggers) (bus a : Byte) :
    t.triggerCount bus a = s.triggerCount bus a := by
  unfold State.triggerCount; rw [h]

theorem State.controllerOf_congr {s t : State} (h : t.controllers = s.controllers) (dev : Byte) :
    t.controllerOf dev = s.controllerOf dev := by
  unfold State.controllerOf; rw [h]

/-! ### What is read after an update that does not concern it -/

@[simp] theorem State.readByte_returns (s : State) (v : Value) (key : Nat) : (s.returns v).readByte key = s.readByte key :=
  State.readByte_congr (by simp) _
@[simp] theorem State.configReg_returns (s : State) (v : Value) (b a : Byte) : (s.returns v).configReg b a = s.configReg b a :=
  State.configReg_congr (by simp) _ _
@[simp] theorem State.triggerCount_returns (s : State) (v : Value) (b a : Byte) : (s.returns v).triggerCount b a = s.triggerCount b a :=
  State.triggerCount_congr (by simp) _ _
@[simp] theorem State.controllerOf_returns (s : State) (v : Value) (dev : Byte) : (s.returns v).controllerOf dev = s.controllerOf dev :=
  State.controllerOf_congr (by simp) _

@[simp] theorem State.readByte_raises (s : State) (e : ErrorKind) (key : Nat) : (s.raises e).readByte key = s.readByte key :=
  State.readByte_congr (by simp) _
@[simp] theorem State.configReg_raises (s : State) (e : ErrorKind) (b a : Byte) : (s.raises e).configReg b a = s.configReg b a :=
  State.configReg_congr (by simp) _ _
@[simp] theorem State.triggerCount_raises (s : State) (e : ErrorKind) (b a : Byte) : (s.raises e).triggerCount b a = s.triggerCount b a :=
  State.triggerCount_congr (by simp) _ _
@[simp] theorem State.controllerOf_raises (s : State) (e : ErrorKind) (dev : Byte) : (s.raises e).controllerOf dev = s.controllerOf dev :=
  State.controllerOf_congr (by simp) _

@[simp] theorem State.readByte_spend (s : State) (key : Nat) : (s.spend).readByte key = s.readByte key :=
  State.readByte_congr (by simp) _
@[simp] theorem State.configReg_spend (s : State) (b a : Byte) : (s.spend).configReg b a = s.configReg b a :=
  State.configReg_congr (by simp) _ _
@[simp] theorem State.triggerCount_spend (s : State) (b a : Byte) : (s.spend).triggerCount b a = s.triggerCount b a :=
  State.triggerCount_congr (by simp) _ _
@[simp] theorem State.controllerOf_spend (s : State) (dev : Byte) : (s.spend).controllerOf dev = s.controllerOf dev :=
  State.controllerOf_congr (by simp) _

@[simp] theorem State.readByte_log (s : State) (e : BusEvent) (key : Nat) : (s.log e).readByte key = s.readByte key :=
  State.readByte_congr (by simp) _
@[simp] theorem State.configReg_log (s : State) (e : BusEvent) (b a : Byte) : (s.log e).configReg b a = s.configReg b a :=
  State.configReg_congr (by simp) _ _
@[simp] theorem State.triggerCount_log (s : State) (e : BusEvent) (b a : Byte) : (s.log e).triggerCount b a = s.triggerCount b a :=
  State.triggerCount_congr (by simp) _ _
@[simp] theorem State.controllerOf_log (s : State) (e : BusEvent) (dev : Byte) : (s.log e).controllerOf dev = s.controllerOf dev :=
  State.controllerOf_congr (by simp) _

@[simp] theorem State.readByte_waits (s : State) (t : Rat) (key : Nat) : (s.waits t).readByte key = s.readByte key :=
  State.readByte_congr (by simp) _
@[simp] theorem State.configReg_waits (s : State) (t : Rat) (b a : Byte) : (s.waits t).configReg b a = s.configReg b a :=
  State.configReg_congr (by simp) _ _
@[simp] theorem State.triggerCount_waits (s : State) (t : Rat) (b a : Byte) : (s.waits t).triggerCount b a = s.triggerCount b a :=
  State.triggerCount_congr (by simp) _ _
@[simp] theorem State.controllerOf_waits (s : State) (t : Rat) (dev : Byte) : (s.waits t).controllerOf dev = s.controllerOf dev :=
  State.controllerOf_congr (by simp) _

@[simp] theorem State.readByte_setController (s : State) (d : Byte) (c : Controller) (key : Nat) : (s.setController d c).readByte key = s.readByte key :=
  State.readByte_congr (by simp) _
@[simp] theorem State.configReg_setController (s : State) (d : Byte) (c : Controller) (b a : Byte) : (s.setController d c).configReg b a = s.configReg b a :=
  State.configReg_congr (by simp) _ _
@[simp] theorem State.triggerCount_setController (s : State) (d : Byte) (c : Controller) (b a : Byte) : (s.setController d c).triggerCount b a = s.triggerCount b a :=
  State.triggerCount_congr (by simp) _ _

@[simp] theorem State.readByte_markConfigured (s : State) (d : Byte) (key : Nat) : (s.markConfigured d).readByte key = s.readByte key :=
  State.readByte_congr (by simp) _
@[simp] theorem State.configReg_markConfigured (s : State) (d : Byte) (b a : Byte) : (s.markConfigured d).configReg b a = s.configReg b a :=
  State.configReg_congr (by simp) _ _
@[simp] theorem State.triggerCount_markConfigured (s : State) (d : Byte) (b a : Byte) : (s.markConfigured d).triggerCount b a = s.triggerCount b a :=
  State.triggerCount_congr (by simp) _ _

@[simp] theorem State.controllerOf_deviceTakes (s : State) (d e : Byte) (w : Word16) (dev : Byte) : (s.deviceTakes d e w).controllerOf dev = s.controllerOf dev :=
  State.controllerOf_congr (by simp) _

@[simp] theorem State.readByte_accept (s : State) (key : Nat) : (s.accept).readByte key = s.readByte key :=
  State.readByte_congr (by simp) _
@[simp] theorem State.configReg_accept (s : State) (b a : Byte) : (s.accept).configReg b a = s.configReg b a :=
  State.configReg_congr (by simp) _ _
@[simp] theorem State.triggerCount_accept (s : State) (b a : Byte) : (s.accept).triggerCount b a = s.triggerCount b a :=
  State.triggerCount_congr (by simp) _ _
@[simp] theorem State.controllerOf_accept (s : State) (dev : Byte) : (s.accept).controllerOf dev = s.controllerOf dev :=
  State.controllerOf_congr (by simp) _

@[simp] theorem State.readByte_enqueueFirst (s : State) (r : Request) (key : Nat) : (s.enqueueFirst r).readByte key = s.readByte key :=
  State.readByte_congr (by simp) _
@[simp] theorem State.configReg_enqueueFirst (s : State) (r : Request) (b a : Byte) : (s.enqueueFirst r).configReg b a = s.configReg b a :=
  State.configReg_congr (by simp) _ _
@[simp] theorem State.triggerCount_enqueueFirst (s : State) (r : Request) (b a : Byte) : (s.enqueueFirst r).triggerCount b a = s.triggerCount b a :=
  State.triggerCount_congr (by simp) _ _
@[simp] theorem State.controllerOf_enqueueFirst (s : State) (r : Request) (dev : Byte) : (s.enqueueFirst r).controllerOf dev = s.controllerOf dev :=
  State.controllerOf_congr (by simp) _

@[simp] theorem State.readByte_writeByte_same (s : State) (key : Nat) (b : Byte) :
    (s.writeByte key b).readByte key = b := by
  simp [State.readByte]

theorem State.readByte_writeByte_other (s : State) {key other : Nat} (b : Byte) (h : other ≠ key) :
    (s.writeByte key b).readByte other = s.readByte other := by
  simp [State.readByte, Assoc.get_set_other _ _ h]

@[simp] theorem State.controllerOf_setController_same (s : State) (dev : Byte) (c : Controller) :
    (s.setController dev c).controllerOf dev = some c := by
  simp [State.controllerOf]

theorem State.controllerOf_setController_other (s : State) {dev other : Byte} (c : Controller) (h : other ≠ dev) :
    (s.setController dev c).controllerOf other = s.controllerOf other := by
  have : other.toNat ≠ dev.toNat := fun e => h (BitVec.eq_of_toNat_eq e)
  simp [State.controllerOf, Assoc.get_set_other _ _ this]

theorem State.markConfigured_eq {s : State} {dev : Byte} {c : Controller} (h : s.controllerOf dev = some c) :
    s.markConfigured dev = s.setController dev { c with configured := true } := by
  simp [State.markConfigured, h]

/-! ### The device takes a word -/

@[simp] theorem State.readByte_noteTaken (s : State) (key : Nat) : s.noteTaken.readByte key = s.readByte key :=
  State.readByte_congr (by simp) _

@[simp] theorem State.readByte_trigger (s : State) (bus a : Byte) (w : Word16) (key : Nat) :
    (s.trigger bus a w).readByte key = s.readByte key := State.readByte_congr (by simp) key

/-- The configuration register holds the word taken. -/
@[simp] theorem State.configReg_deviceTakes (s : State) (bus a : Byte) (w : Word16) :
    (s.deviceTakes bus a w).configReg bus a = w := by
  simp [State.configReg, State.deviceTakes, State.readByte_writeByte_other]

/-- No other byte changes. -/
theorem State.readByte_deviceTakes (s : State) (bus a : Byte) (w : Word16) {key : Nat}
    (h0 : key ≠ regKey bus a ptrConfig) (h1 : key ≠ regKey bus a ptrConfig + 1) :
    (s.deviceTakes bus a w).readByte key = s.readByte key := by
  simp [State.deviceTakes, State.readByte_writeByte_other, h0, h1]

/-- One conversion is started by a strobed single-shot word, none by any other. -/
theorem State.triggerCount_deviceTakes (s : State) (bus a : Byte) (w : Word16) :
    (s.deviceTakes bus a w).triggerCount bus a = s.triggerCount bus a + (if startsConversion w then 1 else 0) := by
  unfold State.deviceTakes State.trigger
  split <;> simp [State.triggerCount, *]

theorem deviceKey_inj {bus a bus' a' : Byte} (h : deviceKey bus' a' = deviceKey bus a) : bus' = bus ∧ a' = a := by
  have h1 := a.isLt
  have h2 := a'.isLt
  simp only [deviceKey] at h
  exact ⟨BitVec.eq_of_toNat_eq (by omega), BitVec.eq_of_toNat_eq (by omega)⟩

theorem State.triggerCount_deviceTakes_other (s : State) {bus a bus' a' : Byte} (w : Word16) (h : (bus', a') ≠ (bus, a)) :
    (s.deviceTakes bus a w).triggerCount bus' a' = s.triggerCount bus' a' := by
  have hk : deviceKey bus' a' ≠ deviceKey bus a := by
    intro e
    obtain ⟨rfl, rfl⟩ := deviceKey_inj e
    exact h rfl
  unfold State.deviceTakes State.trigger
  split <;> simp [State.triggerCount, Assoc.get_set_other _ _ hk]

/-! ### The transport calls -/

/-- Everything a read can do on the registers the transport gives a meaning to. -/
theorem State.read16Call_eq (s : State) {bus a p : Byte} (h : readRefusal a p = none) :
    s.read16Call bus a p =
      if s.draw.fails then .next (s.spend.log (.readFailed bus a p), .error .deviceUnreachable)
      else .next (s.spend.log (.read bus a p (s.delivered bus a p s.draw).1 (s.delivered bus a p s.draw).2),
        .ok (joinBytes (s.delivered bus a p s.draw).1 (s.delivered bus a p s.draw).2)) := by
  simp [State.read16Call, h]

/-- Everything a write can do on the registers the transport gives a meaning to. -/
theorem State.write16Call_eq (s : State) {bus a p : Byte} (v : Word16) (h : writeRefusal a p = none) :
    s.write16Call bus a p v =
      if s.draw.fails then
        .next (if s.draw.landed then
            (s.spend.log (.write bus a p (hiByte v) (loByte v) false)).deviceTakes bus a v
          else s.spend.log (.write bus a p (hiByte v) (loByte v) false), .error .deviceUnreachable)
      else .next ((s.spend.log (.write bus a p (hiByte v) (loByte v) true)).deviceTakes bus a v, .ok ()) := by
  cases hf : s.draw.fails <;> simp [State.write16Call, h, hf]

theorem readRefusal_conversion {a : Byte} (h : validAddress a = true) : readRefusal a ptrConversion = none := by
  simp [readRefusal, h]
theorem readRefusal_config {a : Byte} (h : validAddress a = true) : readRefusal a ptrConfig = none := by
  simp [readRefusal, h]
theorem writeRefusal_config {a : Byte} (h : validAddress a = true) : writeRefusal a ptrConfig = none := by
  simp [writeRefusal, h]

/-- The three ways a read can end. -/
theorem State.read16Call_cases (s : State) (bus a p : Byte) :
    (∃ r, readRefusal a p = some r ∧ s.read16Call bus a p = .refused r) ∨
    (readRefusal a p = none ∧ s.draw.fails = true ∧
      s.read16Call bus a p = .next (s.spend.log (.readFailed bus a p), .error .deviceUnreachable)) ∨
    (readRefusal a p = none ∧ s.draw.fails = false ∧ ∃ b0 b1, s.delivered bus a p s.draw = (b0, b1) ∧
      s.read16Call bus a p = .next (s.spend.log (.read bus a p b0 b1), .ok (joinBytes b0 b1))) := by
  rcases h : readRefusal a p with _ | r
  · cases hf : s.draw.fails
    · exact .inr (.inr ⟨rfl, rfl, (s.delivered bus a p s.draw).1, (s.delivered bus a p s.draw).2, rfl,
        by simp [State.read16Call_eq _ h, hf]⟩)
    · exact .inr (.inl ⟨rfl, rfl, by simp [State.read16Call_eq _ h, hf]⟩)
  · exact .inl ⟨r, rfl, by simp [State.read16Call, h]⟩

/-- The four ways a write can end. -/
theorem State.write16Call_cases (s : State) (bus a p : Byte) (v : Word16) :
    (∃ r, writeRefusal a p = some r ∧ s.write16Call bus a p v = .refused r) ∨
    (writeRefusal a p = none ∧ s.draw.fails = true ∧ s.draw.landed = false ∧
      s.write16Call bus a p v =
        .next (s.spend.log (.write bus a p (hiByte v) (loByte v) false), .error .deviceUnreachable)) ∨
    (writeRefusal a p = none ∧ s.draw.fails = true ∧ s.draw.landed = true ∧
      s.write16Call bus a p v =
        .next ((s.spend.log (.write bus a p (hiByte v) (loByte v) false)).deviceTakes bus a v, .error .deviceUnreachable)) ∨
    (writeRefusal a p = none ∧ s.draw.fails = false ∧
      s.write16Call bus a p v =
        .next ((s.spend.log (.write bus a p (hiByte v) (loByte v) true)).deviceTakes bus a v, .ok ())) := by
  rcases h : writeRefusal a p with _ | r
  · cases hf : s.draw.fails
    · exact .inr (.inr (.inr ⟨rfl, rfl, by simp [State.write16Call_eq _ _ h, hf]⟩))
    · cases hl : s.draw.landed
      · exact .inr (.inl ⟨rfl, rfl, rfl, by simp [State.write16Call_eq _ _ h, hf, hl]⟩)
      · exact .inr (.inr (.inl ⟨rfl, rfl, rfl, by simp [State.write16Call_eq _ _ h, hf, hl]⟩))
  · exact .inl ⟨r, rfl, by simp [State.write16Call, h]⟩

/-- The word a successful read of the configuration register gives agrees with it in bits 14:5. -/
theorem State.delivered_config (s : State) (bus a : Byte) (d : Draw) :
    joinBytes (s.delivered bus a ptrConfig d).1 (s.delivered bus a ptrConfig d).2 =
      (s.configReg bus a &&& fieldMask) ||| (joinBytes d.b0 d.b1 &&& ~~~fieldMask) := by
  have : ptrConfig ≠ ptrConversion := by decide
  simp [State.delivered, this]

@[simp] theorem State.delivered_conversion (s : State) (bus a : Byte) (d : Draw) :
    s.delivered bus a ptrConversion d = (d.b0, d.b1) := by
  simp [State.delivered]

/-- The same with the pointers written out. -/
@[simp] theorem State.delivered_zero (s : State) (bus a : Byte) (d : Draw) :
    s.delivered bus a 0#8 d = (d.b0, d.b1) := State.delivered_conversion s bus a d

theorem State.delivered_one (s : State) (bus a : Byte) (d : Draw) :
    joinBytes (s.delivered bus a 1#8 d).1 (s.delivered bus a 1#8 d).2 =
      (s.configReg bus a &&& fieldMask) ||| (joinBytes d.b0 d.b1 &&& ~~~fieldMask) := State.delivered_config s bus a d

/-! ### Controllers -/

theorem State.withController_some {α : Type} {s : State} {dev : Byte} {c : Controller} (f : Controller → Reply α)
    (h : s.controllerOf dev = some c) : s.withController dev f = f c := by
  simp [State.withController, h]

theorem State.withController_none {α : Type} {s : State} {dev : Byte} (f : Controller → Reply α)
    (h : s.controllerOf dev = none) : s.withController dev f = .refused .noController := by
  simp [State.withController, h]

/-- An operation on a controller that answers next had a controller to run on. -/
theorem State.withController_next {α : Type} {s : State} {dev : Byte} {f : Controller → Reply α}
    {u : State × Except ErrorKind α} (h : s.withController dev f = .next u) :
    ∃ c, s.controllerOf dev = some c ∧ f c = .next u := by
  rcases hc : s.controllerOf dev with _ | c
  · rw [State.withController_none f hc] at h; cases h
  · rw [State.withController_some f hc] at h; exact ⟨c, rfl, h⟩

end Sys2Proof.Machine
end

