-- ==== Sys2Proof/Laws/Controller.lean ====
section
/-! SUPPORT. Everything the controller's operations can do: one lemma per operation for the states it can end
in, and one for when it runs. -/

namespace Sys2Proof.Machine

/-- The word WRITECONFIG sends (43_controller.md R113). -/
def Controller.word (c : Controller) : Word16 := strobeWord (encodeWord c.fields)

/-- The transport side of a WRITECONFIG: one call, one event. -/
def State.sent (s : State) (c : Controller) (ok : Bool) : State :=
  s.spend.log (.write c.bus c.addr ptrConfig (hiByte c.word) (loByte c.word) ok)

@[simp] theorem State.sent_controllers (s : State) (c : Controller) (ok : Bool) : (s.sent c ok).controllers = s.controllers := rfl
@[simp] theorem State.sent_mem (s : State) (c : Controller) (ok : Bool) : (s.sent c ok).mem = s.mem := rfl
@[simp] theorem State.sent_triggers (s : State) (c : Controller) (ok : Bool) : (s.sent c ok).triggers = s.triggers := rfl
@[simp] theorem State.sent_requests (s : State) (c : Controller) (ok : Bool) : (s.sent c ok).requests = s.requests := rfl
@[simp] theorem State.sent_stub (s : State) (c : Controller) (ok : Bool) : (s.sent c ok).stub = s.stub.tail := rfl
@[simp] theorem State.sent_calls (s : State) (c : Controller) (ok : Bool) : (s.sent c ok).calls = s.calls + 1 := rfl
@[simp] theorem State.sent_bus (s : State) (c : Controller) (ok : Bool) : (s.sent c ok).bus =
    .write c.bus c.addr ptrConfig (hiByte c.word) (loByte c.word) ok :: s.bus := rfl
@[simp] theorem State.sent_result (s : State) (c : Controller) (ok : Bool) : (s.sent c ok).result = s.result := rfl
@[simp] theorem State.sent_taken (s : State) (c : Controller) (ok : Bool) : (s.sent c ok).taken = s.taken := rfl

/-- WRITECONFIG on a controller at a valid address: when it fails and when it succeeds. -/
theorem State.writeConfigCall_eq {s : State} {dev : Byte} {c : Controller} (hc : s.controllerOf dev = some c)
    (hv : validAddress c.addr = true) :
    s.writeConfigCall dev =
      if s.draw.fails then
        .next (if s.draw.landed then (s.sent c false).deviceTakes c.bus c.addr c.word else s.sent c false,
          .error .deviceUnreachable)
      else .next (((s.sent c true).deviceTakes c.bus c.addr c.word).setController dev { c with configured := true },
        .ok ()) := by
  have hm : ((s.sent c true).deviceTakes c.bus c.addr c.word).controllerOf dev = some c := by
    rw [State.controllerOf_congr (s := s) (by simp)]; exact hc
  unfold State.writeConfigCall
  rw [State.withController_some _ hc, State.write16Call_eq _ _ (writeRefusal_config hv)]
  cases s.draw.fails
  · simp only [Bool.false_eq_true, if_false, Reply.andThen_ok]
    exact congrArg (fun x => Host.Outcome.next (x, Except.ok ())) (State.markConfigured_eq hm)
  · rfl

/-- The three ways WRITECONFIG can end. -/
theorem State.writeConfigCall_next {s u : State} {dev : Byte} {r : Except ErrorKind Unit}
    (h : s.writeConfigCall dev = .next (u, r)) :
    ∃ c, s.controllerOf dev = some c ∧ validAddress c.addr = true ∧
      ((s.draw.fails = true ∧ r = .error .deviceUnreachable ∧ s.draw.landed = false ∧ u = s.sent c false) ∨
       (s.draw.fails = true ∧ r = .error .deviceUnreachable ∧ s.draw.landed = true ∧
        u = (s.sent c false).deviceTakes c.bus c.addr c.word) ∨
       (s.draw.fails = false ∧ r = .ok () ∧
        u = ((s.sent c true).deviceTakes c.bus c.addr c.word).setController dev { c with configured := true })) := by
  obtain ⟨c, hc, hf⟩ := State.withController_next h
  have hv : validAddress c.addr = true := by
    by_contra hv
    have : writeRefusal c.addr ptrConfig = some .deviceAddress := by simp [writeRefusal, hv]
    simp [State.write16Call, this] at hf
  rw [State.writeConfigCall_eq hc hv] at h
  refine ⟨c, hc, hv, ?_⟩
  cases hd : s.draw.fails <;> cases hl : s.draw.landed <;> simp [hd, hl] at h <;> obtain ⟨rfl, rfl⟩ := h <;> simp

/-- SAMPLERAW is a read, after WRITECONFIG and the wait when it is forced. -/
theorem State.sampleRawCall_eq {s : State} {dev : Byte} {c : Controller} (force : Bool) (hc : s.controllerOf dev = some c) :
    s.sampleRawCall dev force =
      if force then
        (s.writeConfigCall dev).andThen fun _ s' =>
          (s'.waits (minWait c.dr + (Config.waitMargin : Rat))).read16Call c.bus c.addr ptrConversion
      else s.read16Call c.bus c.addr ptrConversion := by
  unfold State.sampleRawCall
  rw [State.withController_some _ hc]
  cases force
  · simp
  · simp only [State.refreshCall, if_true, Reply.andThen_assoc, Reply.andThen_ok]

/-- The ways a read of the conversion register by a controller can end. -/
theorem State.readConversion_next {s u : State} {bus a : Byte} {r : Except ErrorKind Word16}
    (h : s.read16Call bus a ptrConversion = .next (u, r)) :
    validAddress a = true ∧
      ((s.draw.fails = true ∧ r = .error .deviceUnreachable ∧ u = s.spend.log (.readFailed bus a ptrConversion)) ∨
       (s.draw.fails = false ∧ r = .ok (joinBytes s.draw.b0 s.draw.b1) ∧
        u = s.spend.log (.read bus a ptrConversion s.draw.b0 s.draw.b1))) := by
  have hv : validAddress a = true := by
    by_contra hv
    have : readRefusal a ptrConversion = some .deviceAddress := by simp [readRefusal, hv]
    simp [State.read16Call, this] at h
  rw [State.read16Call_eq _ (readRefusal_conversion hv)] at h
  refine ⟨hv, ?_⟩
  cases hd : s.draw.fails <;> simp [hd] at h <;> obtain ⟨rfl, rfl⟩ := h <;> simp

/-- The ways SAMPLERAW can end: its first half (nothing, or WRITECONFIG and the wait) and its read. -/
theorem State.sampleRawCall_next {s u : State} {dev : Byte} {force : Bool} {r : Except ErrorKind Word16}
    (h : s.sampleRawCall dev force = .next (u, r)) :
    ∃ c, s.controllerOf dev = some c ∧
      ((force = true ∧ ∃ e, r = .error e ∧ s.writeConfigCall dev = .next (u, .error e)) ∨
       (force = true ∧ ∃ s', s.writeConfigCall dev = .next (s', .ok ()) ∧
        (s'.waits (minWait c.dr + (Config.waitMargin : Rat))).read16Call c.bus c.addr ptrConversion = .next (u, r)) ∨
       (force = false ∧ s.read16Call c.bus c.addr ptrConversion = .next (u, r))) := by
  obtain ⟨c, hc, -⟩ := State.withController_next h
  rw [State.sampleRawCall_eq force hc] at h
  refine ⟨c, hc, ?_⟩
  cases force
  · exact .inr (.inr ⟨rfl, by simpa using h⟩)
  · rw [if_pos rfl] at h
    obtain ⟨s', a, hw, hr⟩ | ⟨s', e, hw, he⟩ := Reply.andThen_next h
    · exact .inr (.inl ⟨rfl, s', hw, hr⟩)
    · cases he
      exact .inl ⟨rfl, e, rfl, hw⟩

/-- A forced sample leaves the controllers and the device as its WRITECONFIG leaves them. -/
theorem State.sampleRawCall_forced {s u : State} {dev : Byte} {c : Controller} {r : Except ErrorKind Unit}
    (hc : s.controllerOf dev = some c) (hv : validAddress c.addr = true) (h : s.writeConfigCall dev = .next (u, r)) :
    ∃ t x, s.sampleRawCall dev true = .next (t, x) ∧ t.controllers = u.controllers ∧ t.mem = u.mem ∧
      t.triggers = u.triggers ∧ t.taken = u.taken ∧ t.requests = u.requests := by
  rw [State.sampleRawCall_eq true hc, if_pos rfl, h]
  cases r with
  | error e => exact ⟨u, _, rfl, rfl, rfl, rfl, rfl, rfl⟩
  | ok _ =>
    rw [Reply.andThen_ok, State.read16Call_eq _ (readRefusal_conversion hv)]
    split <;> exact ⟨_, _, rfl, rfl, rfl, rfl, rfl, rfl⟩

/-- SAMPLEVOLTAGE is SAMPLERAW with the word scaled by the stored gain. -/
theorem State.sampleVoltageCall_eq {s : State} {dev : Byte} {c : Controller} (force : Bool)
    (hc : s.controllerOf dev = some c) :
    s.sampleVoltageCall dev force =
      (s.sampleRawCall dev force).andThen fun raw s' => .next (s', .ok (raw2vOf raw c.gain)) := by
  unfold State.sampleVoltageCall
  rw [State.withController_some _ hc]

/-- READCONFIG on a controller at a valid address. -/
theorem State.readConfigCall_eq {s : State} {dev : Byte} {c : Controller} (hc : s.controllerOf dev = some c) :
    s.readConfigCall dev =
      (s.read16Call c.bus c.addr ptrConfig).andThen fun w s' => .next (s', .ok (decodeWord w)) := by
  unfold State.readConfigCall
  rw [State.withController_some _ hc]

/-- RECONFIGURE is WRITECONFIG on the state with the new values stored. -/
theorem execReconfigure_eq {s : State} {dev : Byte} {c : Controller} (ch : ChannelSelector) (gain : GainRange)
    (mode : OperatingMode) (dr : DataRate) (hc : s.controllerOf dev = some c) :
    execReconfigure dev ch gain mode dr s =
      execWriteConfig dev (s.setController dev { c with ch := ch, gain := gain, mode := mode, dr := dr }) := by
  unfold execReconfigure execWriteConfig
  rw [State.withController_some _ hc]

end Sys2Proof.Machine
end

