-- ==== Sys2Proof/Laws/PerInstr.lean ====
section
/-! SUPPORT. The family EncodedForm: the request of an operation carries its selector (30_encoding.md R63) and
a number of operand bytes that the selector fixes. -/

namespace Sys2Proof.Laws

/-- How many operand bytes a selector takes. -/
def operandCount : Selector → Nat
  | .unitEnc => 2 | .unitDec => 2 | .unitScl => 3 | .unitFsr => 1 | .unitSps => 1 | .stepStrobe => 2
  | .entryConstruct => 7 | .entryWriteConfig => 1 | .entrySampleRaw => 2 | .entrySampleVoltage => 2
  | .entryReconfigure => 3 | .entryReadConfig => 1 | .callRead16 => 3 | .callWrite16 => 5 | .stepWait => 8

def EncodedForm.Statement (i : Instr) : Prop :=
  (encode i).sel = i.selector ∧ (encode i).bytes.length = operandCount i.selector

theorem EncodedForm.encode (ch : ChannelSelector) (gain : GainRange) (mode : OperatingMode) (dr : DataRate) :
    EncodedForm.Statement (.encode ch gain mode dr) := ⟨rfl, rfl⟩
theorem EncodedForm.decode (w : Word16) : EncodedForm.Statement (.decode w) := ⟨rfl, rfl⟩
theorem EncodedForm.raw2v (raw : Word16) (gain : GainRange) : EncodedForm.Statement (.raw2v raw gain) := ⟨rfl, rfl⟩
theorem EncodedForm.fsr (gain : GainRange) : EncodedForm.Statement (.fsr gain) := ⟨rfl, rfl⟩
theorem EncodedForm.sps (dr : DataRate) : EncodedForm.Statement (.sps dr) := ⟨rfl, rfl⟩
theorem EncodedForm.strobe (w : Word16) : EncodedForm.Statement (.strobe w) := ⟨rfl, rfl⟩
theorem EncodedForm.construct (dev bus address : Byte) (ch : ChannelSelector) (gain : GainRange) (mode : OperatingMode)
    (dr : DataRate) : EncodedForm.Statement (.construct dev bus address ch gain mode dr) := ⟨rfl, rfl⟩
theorem EncodedForm.writeConfig (dev : Byte) : EncodedForm.Statement (.writeConfig dev) := ⟨rfl, rfl⟩
theorem EncodedForm.sampleRaw (dev : Byte) (force : Bool) : EncodedForm.Statement (.sampleRaw dev force) := ⟨rfl, rfl⟩
theorem EncodedForm.sampleVoltage (dev : Byte) (force : Bool) :
    EncodedForm.Statement (.sampleVoltage dev force) := ⟨rfl, rfl⟩
theorem EncodedForm.reconfigure (dev : Byte) (ch : ChannelSelector) (gain : GainRange) (mode : OperatingMode)
    (dr : DataRate) : EncodedForm.Statement (.reconfigure dev ch gain mode dr) := ⟨rfl, rfl⟩
theorem EncodedForm.readConfig (dev : Byte) : EncodedForm.Statement (.readConfig dev) := ⟨rfl, rfl⟩
theorem EncodedForm.read16 (bus address pointer : Byte) :
    EncodedForm.Statement (.read16 bus address pointer) := ⟨rfl, rfl⟩
theorem EncodedForm.write16 (bus address pointer : Byte) (value : Word16) :
    EncodedForm.Statement (.write16 bus address pointer value) := ⟨rfl, rfl⟩
theorem EncodedForm.wait (num den : BitVec 32) : EncodedForm.Statement (.wait num den) := ⟨rfl, rfl⟩

end Sys2Proof.Laws
end

