-- ==== Sys2Proof/Tests/Slice0.lean ====
section
/-! SUPPORT. Small tests, each about one operation. Expected values are the vectors of 95_test_vectors.md (the
section is named at each test) or are read off the tables of 30_encoding.md; none comes from the model. The
last part shows, for each statement with hypotheses, states and operands that meet them. -/

namespace Sys2Proof.Tests

open Sys2Proof.Machine

/-! ### Sample states -/

/-- A controller with shadow registers (0x48, 4, 1, 1, 3), as in 95_test_vectors.md section 2.6. -/
def ctl : Controller := ⟨0x48, .ain0Gnd, .fsr4096, .singleShot, .sps64, 1, false⟩

/-- The transport succeeds; a read of the conversion register delivers these bytes. -/
def answers (b0 b1 : Byte) : Draw := ⟨false, false, b0, b1⟩

/-- The transport fails; the device took a written word or not. -/
def fails (landed : Bool) : Draw := ⟨true, landed, 0, 0⟩

/-- One controller, named 7, and the test bench's answers to the next transport calls. -/
def bench (stub : List Draw) : State := { State.reset with controllers := [(7, ctl)], stub := stub }

/-- The same with the configuration register of its device holding the bytes 0x85, 0x83. -/
def written (stub : List Draw) : State := { bench stub with mem := [(167938, 0x85), (167939, 0x83)] }

/-- A state in which one request waits. -/
def asked (sel : Selector) (bytes : List Byte) : State := { bench [] with requests := [⟨sel, bytes⟩] }

/-- What an operation returned to its caller. -/
def returned (o : Host.Outcome State Fault Refusal) : Option Result :=
  match o with
  | .next s => s.result
  | _ => none

/-- The transport calls an operation made, newest first, without the waits (they hold an open margin). -/
def callsOf (o : Host.Outcome State Fault Refusal) : List BusEvent :=
  match o with
  | .next s => s.bus.filter BusEvent.isCall
  | _ => []

/-- How many events an operation left on the transports, the waits among them. -/
def eventCount (o : Host.Outcome State Fault Refusal) : Nat :=
  match o with
  | .next s => s.bus.length
  | _ => 0

/-- The controller named 7 after an operation. -/
def after (o : Host.Outcome State Fault Refusal) : Option Controller :=
  match o with
  | .next s => s.controllerOf 7
  | _ => none

/-- The configuration register of device 0x48 on transport 1 after an operation. -/
def deviceAfter (o : Host.Outcome State Fault Refusal) : Word16 :=
  match o with
  | .next s => s.configReg 1 0x48
  | _ => 0

/-- The conversions started on device 0x48 of transport 1 after an operation. -/
def startedAfter (o : Host.Outcome State Fault Refusal) : Nat :=
  match o with
  | .next s => s.triggerCount 1 0x48
  | _ => 0

/-- The name of the refusal, if an operation is refused. -/
def refusal (o : Host.Outcome State Fault Refusal) : Option Refusal :=
  match o with
  | .refused r => some r
  | _ => none

/-! ### Well-formedness and the requests the decoder rejects -/

/-- The one check of `Instr.wellFormed`: a duration needs a denominator. -/
theorem test_wellFormed_refuses_zero_denominator : (Instr.wait 1 0).wellFormed = false := by decide
theorem test_wellFormed_admits_a_duration : (Instr.wait 1 64).wellFormed = true := by decide
theorem test_decode_rejects_zero_denominator :
    decode ⟨.stepWait, [0, 0, 0, 1, 0, 0, 0, 0]⟩ = .error .zeroDenominator := by decide
theorem test_decode_rejects_wrong_length :
    decode ⟨.unitDec, [0x43]⟩ = .error .badLength ∧ decode ⟨.entryWriteConfig, []⟩ = .error .badLength := by decide
/-- The fixed bits of the pattern `0cccgggmddd00011`: bit 15, bits 4:2, bits 1:0. -/
theorem test_decode_rejects_fixed_bits :
    decode ⟨.unitEnc, [0xC3, 0x63]⟩ = .error .fixedBits ∧ decode ⟨.unitEnc, [0x43, 0x67]⟩ = .error .fixedBits ∧
    decode ⟨.unitEnc, [0x43, 0x62]⟩ = .error .fixedBits ∧
    decode ⟨.entryReconfigure, [0x42, 0xE3, 7]⟩ = .error .fixedBits := by decide
theorem test_decode_rejects_codes_out_of_range :
    decode ⟨.unitFsr, [8]⟩ = .error .badCode ∧ decode ⟨.entrySampleRaw, [2, 7]⟩ = .error .badCode ∧
    decode ⟨.entryConstruct, [0x48, 4, 1, 2, 3, 1, 7]⟩ = .error .badCode := by decide

/-! ### Decoding: words written out from the patterns of 30_encoding.md R62 to R64 -/

/-- `0 ccc ggg m ddd 00011` with ch 4, gain 1, mode 1, dr 3: bits 0 100 001 1 011 00011. -/
theorem test_decode_encode :
    decode ⟨.unitEnc, [0b01000011, 0b01100011]⟩ = .ok (.encode .ain0Gnd .fsr4096 .singleShot .sps64) := by decide
theorem test_decode_decode : decode ⟨.unitDec, [0x12, 0x34]⟩ = .ok (.decode 0x1234) := by decide
/-- `s vvvvvvvvvvvvvvv`, then the gain code. -/
theorem test_decode_raw2v : decode ⟨.unitScl, [0b10000000, 0b00000001, 0b010]⟩ = .ok (.raw2v 0x8001 .fsr2048) := by
  decide
theorem test_decode_fsr : decode ⟨.unitFsr, [0b110]⟩ = .ok (.fsr .fsr256Alias6) := by decide
theorem test_decode_sps : decode ⟨.unitSps, [0b101]⟩ = .ok (.sps .sps250) := by decide
theorem test_decode_strobe : decode ⟨.stepStrobe, [0x43, 0x63]⟩ = .ok (.strobe 0x4363) := by decide
theorem test_decode_construct :
    decode ⟨.entryConstruct, [0x47, 0b100, 0b001, 0b1, 0b011, 1, 7]⟩ =
      .ok (.construct 7 1 0x47 .ain0Gnd .fsr4096 .singleShot .sps64) := by decide
theorem test_decode_writeConfig : decode ⟨.entryWriteConfig, [7]⟩ = .ok (.writeConfig 7) := by decide
theorem test_decode_sampleRaw : decode ⟨.entrySampleRaw, [1, 7]⟩ = .ok (.sampleRaw 7 true) := by decide
theorem test_decode_sampleVoltage : decode ⟨.entrySampleVoltage, [0, 7]⟩ = .ok (.sampleVoltage 7 false) := by decide
/-- `1 ccc ggg m ddd 00011` with ch 4, gain 1, mode 0, dr 7: bits 1 100 001 0 111 00011. -/
theorem test_decode_reconfigure :
    decode ⟨.entryReconfigure, [0b11000010, 0b11100011, 7]⟩ =
      .ok (.reconfigure 7 .ain0Gnd .fsr4096 .continuous .sps860) := by decide
theorem test_decode_readConfig : decode ⟨.entryReadConfig, [7]⟩ = .ok (.readConfig 7) := by decide
theorem test_decode_read16 : decode ⟨.callRead16, [0x48, 0x00, 1]⟩ = .ok (.read16 1 0x48 0x00) := by decide
theorem test_decode_write16 :
    decode ⟨.callWrite16, [0xC3, 0x63, 0x48, 0x01, 1]⟩ = .ok (.write16 1 0x48 0x01 0xC363) := by decide
/-- 1/64 second: numerator and denominator, most significant byte first. -/
theorem test_decode_wait : decode ⟨.stepWait, [0, 0, 0, 1, 0, 0, 0, 0x40]⟩ = .ok (.wait 1 64) := by decide
/-- A word of the table runs as the first operation after reset. -/
theorem test_withFetchWord_runs_the_word :
    returned (step (State.reset.withFetchWord 16 0x4363)) = some (.ok (.word 0x4363)) ∧
    returned (step (State.reset.withFetchWord 3 0b110)) = some (.ok (.millivolts 256)) := by decide

/-! ### The codec (95_test_vectors.md sections 2.1, 2.2, 2.4, 2.5) -/

theorem test_encode_mixed :
    returned (exec (.encode (.ofCode 5) (.ofCode 5) (.ofCode 1) (.ofCode 5)) State.reset) = some (.ok (.word 0x5BA3)) := by
  decide
theorem test_encode_each_bit :
    [(1, 0, 0, 0), (2, 0, 0, 0), (4, 0, 0, 0), (0, 1, 0, 0), (0, 2, 0, 0), (0, 4, 0, 0), (0, 0, 1, 0), (0, 0, 0, 1),
      (0, 0, 0, 2), (0, 0, 0, 4)].map
      (fun t : Code3 × Code3 × Code1 × Code3 =>
        encodeWord ⟨.ofCode t.1, .ofCode t.2.1, .ofCode t.2.2.1, .ofCode t.2.2.2⟩) =
    [0x1003, 0x2003, 0x4003, 0x0203, 0x0403, 0x0803, 0x0103, 0x0023, 0x0043, 0x0083] := by decide
theorem test_decode_arbitrary_word :
    returned (exec (.decode 0xABCD) State.reset) = some (.ok (.fields ⟨.ofCode 2, .ofCode 5, .ofCode 1, .ofCode 6⟩)) := by
  decide
theorem test_decode_ignored_bits :
    returned (exec (.decode 0x801F) State.reset) = some (.ok (.fields ⟨.ofCode 0, .ofCode 0, .ofCode 0, .ofCode 0⟩)) := by
  decide
theorem test_strobe_twice :
    returned (exec (.strobe 0x4363) State.reset) = some (.ok (.word 0xC363)) ∧
    returned (exec (.strobe 0xC363) State.reset) = some (.ok (.word 0xC363)) := by decide
/-- The most negative word at the widest range; 21-bit patterns of section 2.5. -/
theorem test_raw2v_ends_of_range :
    returned (exec (.raw2v 0x8000 .fsr6144) State.reset) = some (.ok (.vout 0x140000)) ∧
    returned (exec (.raw2v 0x7FFF .fsr6144) State.reset) = some (.ok (.vout 0x0BFFE8)) := by decide
theorem test_raw2v_middle :
    returned (exec (.raw2v 0xABCD .fsr1024) State.reset) = some (.ok (.vout 0x1EAF34)) ∧
    returned (exec (.raw2v 0x1000 .fsr4096) State.reset) = some (.ok (.vout 0x010000)) := by decide
theorem test_fsr_aliases :
    [5, 6, 7].map (fun c : Code3 => returned (exec (.fsr (.ofCode c)) State.reset)) =
      List.replicate 3 (some (.ok (.millivolts 256))) := by decide
theorem test_sps_non_powers :
    [5, 6, 7].map (fun c : Code3 => returned (exec (.sps (.ofCode c)) State.reset)) =
      [some (.ok (.rate 250)), some (.ok (.rate 475)), some (.ok (.rate 860))] := by decide
theorem test_minimum_wait_micros :
    [0, 1, 2, 3, 4, 5, 6, 7].map (fun c : Code3 => minWaitMicros (.ofCode c)) =
      [125000, 62500, 31250, 15625, 7813, 4000, 2106, 1163] := by decide

/-! ### Controllers and transport (95_test_vectors.md sections 2.6, 2.7; programs P4 and P5) -/

theorem test_construct_accepts_0x4B :
    after (exec (.construct 7 1 0x4B (.ofCode 7) (.ofCode 7) (.ofCode 1) (.ofCode 7)) State.reset) =
      some ⟨0x4B, .ofCode 7, .ofCode 7, .ofCode 1, .ofCode 7, 1, false⟩ := by decide
theorem test_construct_refuses_0x47 :
    exec (.construct 7 1 0x47 .ain0Gnd .fsr4096 .singleShot .sps64) State.reset =
      .next (State.reset.raises (.invalidAddress 0x47)) := rfl
theorem test_writeConfig_bytes :
    callsOf (exec (.writeConfig 7) (bench [answers 0 0])) = [.write 1 0x48 0x01 0xC3 0x63 true] ∧
    returned (exec (.writeConfig 7) (bench [answers 0 0])) = some (.ok .unit) := by decide
theorem test_writeConfig_failure :
    returned (exec (.writeConfig 7) (bench [fails true])) = some (.err .deviceUnreachable) ∧
    after (exec (.writeConfig 7) (bench [fails true])) = some ctl := by decide
/-- Forced: a write, a wait and one read. -/
theorem test_sampleRaw_forced :
    callsOf (exec (.sampleRaw 7 true) (bench [answers 0 0, answers 0x10 0x00])) =
      [.read 1 0x48 0x00 0x10 0x00, .write 1 0x48 0x01 0xC3 0x63 true] ∧
    eventCount (exec (.sampleRaw 7 true) (bench [answers 0 0, answers 0x10 0x00])) = 3 ∧
    returned (exec (.sampleRaw 7 true) (bench [answers 0 0, answers 0x10 0x00])) = some (.ok (.word 0x1000)) := by decide
/-- Forced, and the write fails: no wait and no read. -/
theorem test_sampleRaw_stops_after_failed_write :
    eventCount (exec (.sampleRaw 7 true) (bench [fails false, answers 0x10 0x00])) = 1 ∧
    returned (exec (.sampleRaw 7 true) (bench [fails false, answers 0x10 0x00])) = some (.err .deviceUnreachable) := by
  decide
/-- The scenario of example S8. -/
theorem test_sampleVoltage_scenario :
    returned (exec (.sampleVoltage 7 true) (bench [answers 0 0, answers 0x10 0x00])) = some (.ok (.vout 0x010000)) := by
  decide
theorem test_sampleVoltage_unforced_error :
    callsOf (exec (.sampleVoltage 7 false) (bench [fails false])) = [.readFailed 1 0x48 0x00] ∧
    returned (exec (.sampleVoltage 7 false) (bench [fails false])) = some (.err .deviceUnreachable) := by decide
theorem test_reconfigure_bytes :
    callsOf (exec (.reconfigure 7 .ain0Gnd .fsr4096 .continuous .sps860) (bench [answers 0 0])) =
      [.write 1 0x48 0x01 0xC2 0xE3 true] := by decide
/-- The new values stay after a failed write. -/
theorem test_reconfigure_failure_keeps_new_values :
    after (exec (.reconfigure 7 .ain0Gnd .fsr4096 .continuous .sps860) (bench [fails false])) =
      some ⟨0x48, .ain0Gnd, .fsr4096, .continuous, .sps860, 1, false⟩ := by decide
/-- The device holds 0x8583; whatever bit 15 and bits 4:0 read as, the fields are (0, 2, 1, 4), and the shadow
registers do not take them. -/
theorem test_readConfig_fields :
    returned (exec (.readConfig 7) (written [answers 0xFF 0xFF])) =
      some (.ok (.fields ⟨.ofCode 0, .ofCode 2, .ofCode 1, .ofCode 4⟩)) ∧
    after (exec (.readConfig 7) (written [answers 0xFF 0xFF])) = some ctl := by decide
/-- Most significant byte first: 0x1000, not 0x0010. -/
theorem test_read16_byte_order :
    returned (exec (.read16 1 0x48 0x00) (bench [answers 0x10 0x00])) = some (.ok (.word 0x1000)) := by decide
theorem test_read16_config_register :
    returned (exec (.read16 1 0x48 0x01) (written [answers 0x80 0x03])) = some (.ok (.word 0x8583)) := by decide
theorem test_write16_byte_order :
    callsOf (exec (.write16 1 0x48 0x01 0x8003) (bench [answers 0 0])) = [.write 1 0x48 0x01 0x80 0x03 true] ∧
    deviceAfter (exec (.write16 1 0x48 0x01 0x8003) (bench [answers 0 0])) = 0x8003 := by decide
theorem test_write16_failure_old_or_new :
    deviceAfter (exec (.write16 1 0x48 0x01 0x9003) (written [fails true])) = 0x9003 ∧
    deviceAfter (exec (.write16 1 0x48 0x01 0x9003) (written [fails false])) = 0x8583 := by decide
theorem test_wait_changes_no_hardware_state :
    after (exec (.wait 1 64) (bench [])) = some ctl ∧ returned (exec (.wait 1 64) (bench [])) = some (.ok .unit) := by
  decide

/-- The count of device 0x48 on transport 1 after a forced sample, and after a RECONFIGURE whose failed write landed
(20_memory.md R38, R40): one conversion each. -/
theorem test_forced_sample_and_landed_write_start_a_conversion :
    startedAfter (exec (.sampleRaw 7 true) (bench [answers 0 0, fails false])) = 1 ∧
    startedAfter (exec (.reconfigure 7 .ain0Gnd .fsr512 .singleShot .sps8) (bench [fails true])) = 1 ∧
    startedAfter (exec (.reconfigure 7 .ain0Gnd .fsr512 .singleShot .sps8) (bench [fails false])) = 0 := by decide

/-! ### The caller's contract (70_reset_and_hazards.md R153, R156, R163) -/

/-- A strobed single-shot write of gain 1 and rate code 0 (8 samples per second), word 0xC303, that succeeded. -/
def slowWrite : BusEvent := .write 1 0x48 ptrConfig 0xC3 0x03 true

/-- The wait of the word 0xC303 (the table of R157). -/
theorem test_minWait_slow : minWait (.ofCode (extractDr (joinBytes 0xC3 0x03))) = 1 / 8 := by
  rw [show DataRate.ofCode (extractDr (joinBytes 0xC3 0x03)) = .sps8 by decide, minWait, spsOf_sps8]; norm_num

/-- A write at 860 samples per second that failed, after one at 8 that succeeded: 1/860 second is not enough, since
the device may still be converting at 8. -/
theorem test_contract_failed_write_does_not_shorten_the_wait :
    conversionWaitMet 1 0x48 [.wait (1/860), .write 1 0x48 ptrConfig 0xC3 0xE3 false, slowWrite] = false := by
  have h : window 1 0x48 [.wait (1/860), .write 1 0x48 ptrConfig 0xC3 0xE3 false, slowWrite] =
      some ⟨[(0 + 1/860, joinBytes 0xC3 0xE3), (0 + 1/860, joinBytes 0xC3 0x03)], none⟩ := by
    rw [window_wait, window_write_failed, slowWrite, window_write_ok _ _ _ (by decide)]; rfl
  simp only [conversionWaitMet, h, List.all_cons, test_minWait_slow]
  norm_num

/-- No successful write at all: no read is timely. -/
theorem test_contract_needs_a_successful_write :
    contractMet (.read16 1 0x48 ptrConversion)
      { State.reset with bus := [.wait 1, .write 1 0x48 ptrConfig 0xC3 0xE3 false] } = false := by
  simp [contractMet, readTimely_none]

/-- A later write of another gain (0xC503 has gain 2) without the strobe (0x4503) starts no conversion: the sample
ran under gain 1, so gain 2 does not agree. -/
theorem test_contract_unstrobed_write_does_not_change_the_gain :
    gainAgrees 1 0x48 .fsr2048 [.wait 1, .write 1 0x48 0x01 0x45 0x03 true, slowWrite] = false := by decide

/-! ### Witnesses: the hypotheses of the statements can be met -/

theorem test_witness_EncodeImageIsTheFixedPattern :
    encodeWord ⟨.ain0Gnd, .fsr4096, .singleShot, .sps64⟩ = 0x4363 ∧ (0x4363 : Word16) &&& 0x801F = 0x0003 ∧
    (0xC363 : Word16) &&& 0x801F = 0x8003 := by decide
theorem test_witness_DecodeIgnoresStrobeAndTail :
    (0x0583 : Word16) ≠ 0x859C ∧ (0x0583 : Word16) &&& 0x7FE0 = 0x859C &&& 0x7FE0 := by decide
theorem test_witness_SpsReturnsSamplesPerSecond :
    DataRate.sps8.code < DataRate.sps860.code ∧ spsUnit DataRate.sps475.code = spsUnit DataRate.sps475.code := by decide
theorem test_witness_Raw2vIsScaledByK :
    (0x7FFF : Word16) ≠ 0x8000 ∧ (0x8000 : Word16).toInt < (0x7FFF : Word16).toInt := by decide
theorem test_witness_RcodecHoldsNoState :
    (Instr.encode .ain0Gnd .fsr4096 .singleShot .sps64).isRcodec = true ∧ (Instr.decode 0xFFFF).isRcodec = true ∧
    (Instr.raw2v 0x8000 .fsr6144).isRcodec = true ∧ (Instr.fsr .fsr256).isRcodec = true ∧
    (Instr.sps .sps8).isRcodec = true := by decide
/-- Two different inputs of the block that agree on the unit ENC, as on every other unit in turn. -/
theorem test_witness_RcodecUnitsAreIndependent :
    ∃ i j : PortsIn, i ≠ j ∧ (i.encCh, i.encGain, i.encMode, i.encDr) = (j.encCh, j.encGain, j.encMode, j.encDr) ∧
      (i.sclRaw, i.sclGain) = (j.sclRaw, j.sclGain) ∧ i.fsrGain = j.fsrGain ∧ i.spsDr = j.spsDr :=
  ⟨⟨1, 2, 1, 3, 0, 5, 1, 2, 3⟩, ⟨1, 2, 1, 3, 9, 5, 1, 2, 3⟩, by decide⟩
/-- Both ends of the address range, success and failure. -/
theorem test_witness_Write16SendsTheWordHighByteFirst :
    (∃ a : Byte, a = 0x4B ∧ (a = 0x48 ∨ a = 0x49 ∨ a = 0x4A ∨ a = 0x4B)) ∧
    (∃ a : Byte, a = 0x48 ∧ (a = 0x48 ∨ a = 0x49 ∨ a = 0x4A ∨ a = 0x4B)) ∧
    (bench [answers 0 0]).draw.fails = false ∧ (bench [fails true]).draw.fails = true := by decide
/-- Also of StrobedSingleShotWriteStartsOneConversion for failed writes. -/
theorem test_witness_FailedWriteLeavesOldOrNew :
    (bench [fails true]).draw.fails = true ∧ (bench [fails true]).draw.landed = true ∧
    (bench [fails false]).draw.fails = true ∧ (bench [fails false]).draw.landed = false ∧
    (bench [fails true]).controllerOf 7 = some ctl ∧ validAddress ctl.addr = true ∧ validAddress 0x4B = true := by decide
theorem test_witness_Read16ReturnsTheRegister :
    (∃ a p : Byte, (a = 0x48 ∨ a = 0x49 ∨ a = 0x4A ∨ a = 0x4B) ∧ p = 0x00) ∧
    (∃ a p : Byte, (a = 0x48 ∨ a = 0x49 ∨ a = 0x4A ∨ a = 0x4B) ∧ p = 0x01) ∧
    (bench [answers 0xFF 0x00]).draw.fails = false ∧ (bench [fails true]).draw.fails = true :=
  ⟨⟨0x4B, 0x00, by decide⟩, ⟨0x48, 0x01, by decide⟩, by decide, by decide⟩
theorem test_witness_TransportIsMostSignificantByteFirst :
    (∃ t, exec (.write16 1 0x48 0x01 0xC363) (bench [answers 0 0]) = .next t) ∧
    (∃ t, exec (.read16 1 0x48 0x00) (bench [answers 0xFF 0x00]) = .next t ∧ t.result = some (.ok (.word 0xFF00))) :=
  ⟨⟨_, rfl⟩, ⟨_, rfl, rfl⟩⟩
theorem test_witness_StrobedSingleShotWriteStartsOneConversion :
    validAddress 0x48 = true ∧ (bench [answers 0 0]).draw.fails = false ∧
    (bench [answers 0 0]).controllerOf 7 = some ctl ∧ ctl.mode = .singleShot := by decide
/-- The addresses and pointers next to the valid ones; no two clauses meet. -/
theorem test_witness_TransportRefusesOtherRegisters :
    validAddress 0x47 = false ∧ validAddress 0x4C = false ∧ validAddress 0x48 = true ∧ validAddress 0x4B = true ∧
    refusal (exec (.read16 1 0x47 0x00) State.reset) = some .deviceAddress ∧
    refusal (exec (.read16 1 0x48 0x02) State.reset) = some .registerPointer ∧
    refusal (exec (.write16 1 0x48 0x02 0) State.reset) = some .registerPointer ∧
    refusal (exec (.write16 1 0x4B 0x00 0) State.reset) = some .conversionWrite := by decide
theorem test_witness_ConstructMakesAControllerOrRefusesTheAddress :
    (∃ a : Byte, a = 0x4B ∧ (a = 0x48 ∨ a = 0x49 ∨ a = 0x4A ∨ a = 0x4B)) ∧
    (∃ a : Byte, a = 0x4C ∧ ¬ (a = 0x48 ∨ a = 0x49 ∨ a = 0x4A ∨ a = 0x4B)) := by decide
theorem test_witness_InvalidAddressOnlyFromConstruct :
    ∃ t, exec (.construct 7 1 0x4C .ain0Ain1 .fsr6144 .continuous .sps8) State.reset = .next t ∧
      t.result = some (.err (.invalidAddress 0x4C)) := ⟨_, rfl, rfl⟩
/-- Also of SuccessfulWriteIsHeldByTheDevice, SampleVoltageScalesOneRawSample, ReconfigureStoresThenWrites and
ReadConfigDecodesTheRegister. -/
theorem test_witness_WriteConfigSendsTheStrobedConfiguration :
    (bench [answers 0 0]).controllerOf 7 = some ctl ∧ validAddress ctl.addr = true ∧
    (bench [answers 0 0]).draw.fails = false ∧ (bench [fails true]).draw.fails = true := by decide
/-- The three courses of a forced sample, and the two of an unforced one. -/
theorem test_witness_SampleRawWritesWaitsAndReadsOnce :
    (bench [fails false]).draw.fails = true ∧
    ((bench [answers 0 0, fails false]).draw.fails = false ∧
      ∃ u, exec (.writeConfig 7) (bench [answers 0 0, fails false]) = .next u ∧ (u.waits 1).draw.fails = true) ∧
    ((bench [answers 0 0, answers 1 2]).draw.fails = false ∧
      ∃ u, exec (.writeConfig 7) (bench [answers 0 0, answers 1 2]) = .next u ∧ (u.waits 1).draw.fails = false) ∧
    (bench []).controllerOf 7 = some ctl ∧ validAddress ctl.addr = true :=
  ⟨by decide, ⟨by decide, _, rfl, by decide⟩, ⟨by decide, _, rfl, by decide⟩, by decide⟩
theorem test_witness_UnforcedSampleRunsUnconfigured :
    (bench [answers 0xF0 0x00]).controllerOf 7 = some ctl ∧ validAddress ctl.addr = true ∧ ctl.configured = false ∧
    (bench [answers 0xF0 0x00]).draw.fails = false := by decide
theorem test_witness_NoOperationWithoutAController :
    (Instr.writeConfig 7).target = some 7 ∧ (Instr.readConfig 7).target = some 7 ∧
    State.reset.controllerOf 7 = none := by decide
/-- Also of ControllersAreIndependent, UnknownFieldIsNeverProduced and OneDrawPerTransportCall. -/
theorem test_witness_OnlyConstructAndReconfigureWriteShadows :
    (∃ t, exec (.writeConfig 7) (bench [answers 0 0]) = .next t) ∧ (Instr.writeConfig 7).writesShadow ≠ some 7 ∧
    (Instr.reconfigure 7 .ain0Gnd .fsr512 .continuous .sps8).writesShadow ≠ some 8 ∧
    (Instr.reconfigure 7 .ain0Gnd .fsr512 .continuous .sps8).target ≠ some 8 := ⟨⟨_, rfl⟩, by decide⟩
theorem test_witness_GhostFlagIsNotRead :
    (bench [answers 0xF0 0x00]).controllerOf 7 = some ctl ∧
    ∃ t, exec (.sampleRaw 7 false) (bench [answers 0xF0 0x00]) = .next t := ⟨by decide, ⟨_, rfl⟩⟩
theorem test_witness_ModeIsSetByConstructAndReconfigure :
    (∃ t, exec (.construct 7 1 0x48 .ain0Gnd .fsr512 .continuous .sps8) State.reset = .next t) ∧
    validAddress 0x48 = true ∧
    (∃ t, exec (.reconfigure 7 .ain0Gnd .fsr512 .continuous .sps8) (bench [fails false]) = .next t) ∧
    (∃ t, exec (.sampleRaw 7 true) (bench [answers 0 0, answers 1 2]) = .next t) ∧
    (Instr.sampleRaw 7 true).writesShadow ≠ some 7 := ⟨⟨_, rfl⟩, by decide, ⟨_, rfl⟩, ⟨_, rfl⟩, by decide⟩
theorem test_witness_ControllerIssuesOnlyItsThreeCalls :
    (Instr.sampleVoltage 7 true).target = some 7 ∧ (bench [answers 0 0, answers 1 2]).controllerOf 7 = some ctl ∧
    ∃ t, exec (.sampleVoltage 7 true) (bench [answers 0 0, answers 1 2]) = .next t := ⟨by decide, by decide, ⟨_, rfl⟩⟩
/-- Both clauses: a failed call among the events, and a result DeviceUnreachable. -/
theorem test_witness_FailedCallEndsTheOperation :
    ∃ t, exec (.writeConfig 7) (bench [fails false]) = .next t ∧
      t.bus = [.write 1 0x48 0x01 0xC3 0x63 false] ++ (bench [fails false]).bus ∧
      (BusEvent.write 1 0x48 0x01 0xC3 0x63 false).failed = true ∧ t.result = some (.err .deviceUnreachable) :=
  ⟨_, rfl, by decide⟩
theorem test_witness_EveryOperationCompletesWhenRunnable :
    [Instr.encode .ain0Gnd .fsr512 .continuous .sps8, .decode 0, .raw2v 0 .fsr512, .fsr .fsr512, .sps .sps8, .strobe 0,
      .construct 8 1 0x00 .ain0Gnd .fsr512 .continuous .sps8, .writeConfig 7, .sampleRaw 7 true, .sampleVoltage 7 false,
      .reconfigure 7 .ain0Gnd .fsr512 .continuous .sps8, .readConfig 7, .read16 1 0x4B 0x01, .write16 1 0x48 0x01 0,
      .wait 1 0].all (fun i => runnable i (bench [])) = true := by decide
theorem test_witness_ReadBackReturnsTheWrittenConfiguration :
    (bench [answers 0 0, answers 1 2]).controllerOf 7 = some ctl ∧ validAddress ctl.addr = true ∧
    ∃ t, exec (.writeConfig 7) (bench [answers 0 0, answers 1 2]) = .next t ∧ t.result = some (.ok .unit) ∧
      t.draw.fails = false := ⟨by decide, by decide, _, rfl, by decide⟩
theorem test_witness_ForcedSampleMeetsTheConversionWait :
    (bench [answers 0 0, answers 0x10 0x00]).controllerOf 7 = some ctl ∧
    (∃ t, exec (.sampleRaw 7 true) (bench [answers 0 0, answers 0x10 0x00]) = .next t ∧
      t.result = some (.ok (.word 0x1000))) ∧
    (∃ t, exec (.sampleVoltage 7 true) (bench [answers 0 0, answers 0x10 0x00]) = .next t ∧
      t.result = some (.ok (.vout 0x010000))) := ⟨by decide, ⟨_, rfl, by decide⟩, ⟨_, rfl, by decide⟩⟩
/-- A read 1/8 second after the slow write and a failed one of the same word. -/
theorem test_witness_TimelyReadFollowsASuccessfulWrite :
    readTimely 1 0x48 [.wait (1/8), .write 1 0x48 ptrConfig 0xC3 0x03 false, slowWrite] = true := by
  have h : window 1 0x48 [.wait (1/8), .write 1 0x48 ptrConfig 0xC3 0x03 false, slowWrite] =
      some ⟨[(0 + 1/8, joinBytes 0xC3 0x03), (0 + 1/8, joinBytes 0xC3 0x03)], none⟩ := by
    rw [window_wait, window_write_failed, slowWrite, window_write_ok _ _ _ (by decide)]; rfl
  simp only [readTimely, conversionWaitMet, spacingMet, h, List.all_cons, test_minWait_slow]
  norm_num
/-- The three clauses: a request that decodes, none at all, and one that decodes to nothing. -/
theorem test_witness_StepRunsTheNextRequest :
    ((asked .unitDec [0, 3]).requests = ⟨.unitDec, [0, 3]⟩ :: [] ∧ decode ⟨.unitDec, [0, 3]⟩ = .ok (.decode 3)) ∧
    (bench []).requests = [] ∧
    ((asked .unitDec [0]).requests = ⟨.unitDec, [0]⟩ :: [] ∧ decode ⟨.unitDec, [0]⟩ = .error .badLength) := by decide
/-- Also of OperationsRunInTheOrderAsked. -/
theorem test_witness_EveryStepKeepsTheInvariant :
    (asked .unitDec [0, 3]).Inv ∧ ∃ t, step (asked .unitDec [0, 3]) = .next t :=
  ⟨⟨by decide, by decide, by decide, by decide, by decide, by decide, by decide⟩, ⟨_, rfl⟩⟩
theorem test_witness_ControllerOperationsNeverStopUnderTheInvariant :
    (asked .entryReadConfig [7]).Inv ∧ (Instr.readConfig 7).target = some 7 ∧
    (asked .entryReadConfig [7]).controllerOf 7 = some ctl ∧
    (asked .entryReadConfig [7]).requests = ⟨.entryReadConfig, [7]⟩ :: [] ∧
    decode ⟨.entryReadConfig, [7]⟩ = .ok (.readConfig 7) :=
  ⟨⟨by decide, by decide, by decide, by decide, by decide, by decide, by decide⟩, by decide⟩
theorem test_witness_DecodeOfEncodedRequest : (Instr.wait 1 64).wellFormed = true := by decide
theorem test_witness_EncodeOfDecodedRequest : decode ⟨.unitFsr, [7]⟩ = .ok (.fsr .fsr256Alias7) := by decide

end Sys2Proof.Tests
end

/-! ## The state: what an operation depends on and what it keeps (10_state.md)

Three closed properties of a `Reply` carry the proofs over all operations: what it keeps (`Reply.Keeps`), that it
answers (`Reply.Answers`), and that two runs answer alike (`Reply.Matches`). Each has one rule per way of composing
operations, so an operation's proof follows its definition. -/

namespace Sys2Proof.Machine

/-! ### The operations of RCODEC and the ports of the block -/

theorem exec_encode (ch : ChannelSelector) (gain : GainRange) (mode : OperatingMode) (dr : DataRate) (s : State) :
    exec (.encode ch gain mode dr) s = .next (s.returns (.word (encUnit ch.code gain.code mode.code dr.code))) := rfl
theorem exec_decode (w : Word16) (s : State) : exec (.decode w) s = .next (s.returns (.fields (decodeWord w))) := rfl
theorem exec_raw2v (raw : Word16) (gain : GainRange) (s : State) :
    exec (.raw2v raw gain) s = .next (s.returns (.vout (sclUnit raw gain.code))) := rfl
theorem exec_fsr (gain : GainRange) (s : State) :
    exec (.fsr gain) s = .next (s.returns (.millivolts (fsrUnit gain.code))) := rfl
theorem exec_sps (dr : DataRate) (s : State) : exec (.sps dr) s = .next (s.returns (.rate (spsUnit dr.code))) := rfl

/-- The codes of the fields DECODE returns are the outputs of the unit DEC. -/
theorem decodeWord_codes (w : Word16) :
    ((decodeWord w).ch.code, (decodeWord w).gain.code, (decodeWord w).mode.code, (decodeWord w).dr.code) =
      ((decUnit w).ch, (decUnit w).gain, (decUnit w).mode, (decUnit w).dr) := by
  simp [decodeWord]

@[simp] theorem rcodec_encWord (p : PortsIn) : (rcodec p).encWord = encUnit p.encCh p.encGain p.encMode p.encDr := rfl
@[simp] theorem rcodec_dec (p : PortsIn) : (rcodec p).dec = decUnit p.decWord := rfl
@[simp] theorem rcodec_sclVout (p : PortsIn) : (rcodec p).sclVout = sclUnit p.sclRaw p.sclGain := rfl
@[simp] theorem rcodec_fsrMv (p : PortsIn) : (rcodec p).fsrMv = fsrUnit p.fsrGain := rfl
@[simp] theorem rcodec_spsVal (p : PortsIn) : (rcodec p).spsVal = spsUnit p.spsDr := rfl
@[simp] theorem decUnit_err (w : Word16) : (decUnit w).err = 0 := rfl

/-- An operation of RCODEC returns a value that its operands fix. -/
theorem exec_rcodec_returns {i : Instr} (h : i.isRcodec = true) : ∃ v : Value, ∀ s, exec i s = .next (s.returns v) := by
  cases i with
  | encode ch gain mode dr => exact ⟨_, exec_encode ch gain mode dr⟩
  | decode w => exact ⟨_, exec_decode w⟩
  | raw2v raw gain => exact ⟨_, exec_raw2v raw gain⟩
  | fsr gain => exact ⟨_, exec_fsr gain⟩
  | sps dr => exact ⟨_, exec_sps dr⟩
  | _ => cases h

/-- Settles O17: the value an operation of RCODEC returns is the same from every state. -/
theorem rcodecHoldsNoState : Obligations.RcodecHoldsNoState := by
  intro i hi
  obtain ⟨v, hv⟩ := exec_rcodec_returns hi
  exact ⟨.ok v, hv⟩

/-- Settles O18: each output port is a function of its own unit's input ports. -/
theorem rcodecUnitsAreIndependent : Obligations.RcodecUnitsAreIndependent := by
  intro i j
  refine ⟨fun h => ?_, fun h => ?_, fun h => ?_, fun h => ?_, fun h => ?_, decUnit_err _⟩
  · obtain ⟨hch, hgain, hmode, hdr⟩ := by simpa only [Prod.mk.injEq] using h
    simp [hch, hgain, hmode, hdr]
  · simp [h]
  · obtain ⟨hraw, hgain⟩ := by simpa only [Prod.mk.injEq] using h
    simp [hraw, hgain]
  · simp [h]
  · simp [h]

/-- Settles O19: an operation on the values its codes stand for runs its unit on these codes. -/
theorem operationsReturnTheirPorts : Obligations.OperationsReturnTheirPorts := by
  intro p s
  refine ⟨?_, ⟨decodeWord p.decWord, exec_decode _ s, decodeWord_codes p.decWord⟩, ?_, ?_, ?_⟩
  · simp [exec_encode, State.returns]
  · simp [exec_raw2v, State.returns]
  · simp [exec_fsr, State.returns]
  · simp [exec_sps, State.returns]

/-! ### The step -/

/-- A step runs the operation of the next request. -/
theorem step_of_decode {s : State} {r : Request} {rest : List Request} {i : Instr} (hr : s.requests = r :: rest)
    (hi : decode r = .ok i) : step s = exec i s.accept := by
  simp [step, State.nextRequest, hr, hi]

/-- With no request the machine idles. -/
theorem step_idle {s : State} (h : s.requests = []) : step s = .next s := by
  simp [step, State.nextRequest, h]

/-- A request that is no operation is refused. -/
theorem step_of_reject {s : State} {r : Request} {rest : List Request} {why : DecodeReject}
    (hr : s.requests = r :: rest) (hw : decode r = .error why) : step s = .refused (.badRequest why) := by
  simp [step, State.nextRequest, hr, hw]

/-- A step that answers idled or ran the operation of the next request. -/
theorem step_next {s t : State} (h : step s = .next t) :
    (s.requests = [] ∧ t = s) ∨ ∃ i, exec i s.accept = .next t := by
  rcases hr : s.requests with _ | ⟨r, rest⟩
  · rw [step_idle hr] at h
    cases h
    exact .inl ⟨rfl, rfl⟩
  · rcases hd : decode r with why | i
    · rw [step_of_reject hr hd] at h
      cases h
    · exact .inr ⟨i, step_of_decode hr hd ▸ h⟩

/-- Settles O48: the three ways a step can go. -/
theorem stepRunsTheNextRequest : Obligations.StepRunsTheNextRequest := by
  refine ⟨fun s r rest i hr hi => ?_, fun s => step_idle, fun s r rest why => step_of_reject⟩
  rw [step_of_decode hr hi, State.accept, hr, List.tail_cons]

/-! ### Operations on a controller -/

/-- CONSTRUCT at a valid address (43_controller.md R111). -/
theorem exec_construct_valid {dev bus a : Byte} {ch : ChannelSelector} {gain : GainRange} {mode : OperatingMode}
    {dr : DataRate} {s : State} (hv : validAddress a = true) :
    exec (.construct dev bus a ch gain mode dr) s =
      .next ((s.setController dev ⟨a, ch, gain, mode, dr, bus, false⟩).returns (.controller dev)) := if_pos hv

/-- CONSTRUCT at any other address (43_controller.md R111). -/
theorem exec_construct_invalid {dev bus a : Byte} {ch : ChannelSelector} {gain : GainRange} {mode : OperatingMode}
    {dr : DataRate} {s : State} (hv : ¬ validAddress a = true) :
    exec (.construct dev bus a ch gain mode dr) s = .next (s.raises (.invalidAddress a)) := if_neg hv

/-- An operation on a controller looks the controller up before anything else. -/
theorem exec_of_target {i : Instr} {dev : Byte} (h : i.target = some dev) (s : State) :
    ∃ (α : Type) (f : Controller → Reply α) (v : α → Value), exec i s = (s.withController dev f).finish v := by
  cases i with
  | writeConfig | sampleRaw | sampleVoltage | reconfigure | readConfig => cases h; exact ⟨_, _, _, rfl⟩
  | _ => cases h

/-- Settles O36: the controller is looked up first. -/
theorem noOperationWithoutAController : Obligations.NoOperationWithoutAController := by
  intro i dev s hi hc
  obtain ⟨α, f, v, he⟩ := exec_of_target hi s
  rw [he, State.withController_none f hc, Reply.finish_refused]

/-! ### What every operation keeps -/

/-- If the reply answers, `P` holds of the state so far, and the error, if any, is not UnknownField. -/
def Reply.Keeps {α : Type} (P : State → Prop) (r : Reply α) : Prop :=
  ∀ u x, r = .next (u, x) → P u ∧ x ≠ .error .unknownField

/-- `P` is kept by every update of the state that the operation `i` is made of. Only devices at valid addresses
take words, and only valid addresses are stored. -/
structure KeptBy (i : Instr) (P : State → Prop) : Prop where
  spend : ∀ {s : State}, P s → P s.spend
  log : ∀ {s : State} (e : BusEvent), P s → P (s.log e)
  takes : ∀ {s : State} (bus : Byte) {a : Byte} (w : Word16), validAddress a = true → P s → P (s.deviceTakes bus a w)
  mark : ∀ {s : State} {dev : Byte}, i.target = some dev → P s → P (s.markConfigured dev)
  store : ∀ {s : State} {dev : Byte} {c : Controller}, i.writesShadow = some dev → validAddress c.addr = true →
    P s → P (s.setController dev c)
  returns : ∀ {s : State} (v : Value), P s → P (s.returns v)
  raises : ∀ {s : State} {e : ErrorKind}, e ≠ .unknownField → P s → P (s.raises e)

section Keeps

variable {α β : Type} {P : State → Prop} {i : Instr} {s : State} {dev : Byte}

theorem Reply.Keeps.ok (a : α) (hs : P s) : Reply.Keeps P (.next (s, .ok a)) := by
  rintro u x ⟨⟩
  exact ⟨hs, nofun⟩

theorem Reply.Keeps.unreachable (hs : P s) :
    Reply.Keeps P (.next (s, .error .deviceUnreachable) : Reply α) := by
  rintro u x ⟨⟩
  exact ⟨hs, nofun⟩

theorem Reply.Keeps.refused (r : Refusal) : Reply.Keeps P (.refused r : Reply α) := nofun

theorem Reply.Keeps.andThen {r : Reply α} {f : α → State → Reply β} (hr : r.Keeps P)
    (hf : ∀ a u, P u → (f a u).Keeps P) : (r.andThen f).Keeps P := by
  intro u x h
  obtain ⟨u', a, hu', hfa⟩ | ⟨u', e, hu', he⟩ := Reply.andThen_next h
  · exact hf a u' (hr _ _ hu').1 u x hfa
  · cases he
    obtain ⟨hu, hx⟩ := hr _ _ hu'
    exact ⟨hu, fun h => hx (by cases h; rfl)⟩

theorem Reply.Keeps.withController {f : Controller → Reply α} (hf : ∀ c, (f c).Keeps P) :
    (s.withController dev f).Keeps P := by
  intro u x h
  obtain ⟨c, -, hfc⟩ := State.withController_next h
  exact hf c u x hfc

theorem Reply.Keeps.finish {r : Reply α} {v : α → Value} {t : State} (hr : r.Keeps P) (hP : KeptBy i P)
    (h : r.finish v = .next t) : P t := by
  obtain ⟨u, a, hu, rfl⟩ | ⟨u, e, hu, rfl⟩ := Reply.finish_next h
  · exact hP.returns _ (hr _ _ hu).1
  · obtain ⟨hPu, he⟩ := hr _ _ hu
    exact hP.raises (fun h => he (by rw [h])) hPu

/-- The transport writes only to devices at valid addresses (20_memory.md R31, D24). -/
theorem validAddress_of_writeRefusal {a p : Byte} (h : writeRefusal a p = none) : validAddress a = true := by
  by_contra hv
  simp [writeRefusal, hv] at h

theorem State.read16Call_keeps (hP : KeptBy i P) (hs : P s) (bus a p : Byte) : (s.read16Call bus a p).Keeps P := by
  obtain ⟨r, -, h⟩ | ⟨-, -, h⟩ | ⟨-, -, b0, b1, -, h⟩ := s.read16Call_cases bus a p <;> rw [h]
  · exact .refused r
  · exact .unreachable (hP.log _ (hP.spend hs))
  · exact .ok _ (hP.log _ (hP.spend hs))

theorem State.write16Call_keeps (hP : KeptBy i P) (hs : P s) (bus a p : Byte) (w : Word16) :
    (s.write16Call bus a p w).Keeps P := by
  have hlog (e : BusEvent) : P (s.spend.log e) := hP.log e (hP.spend hs)
  obtain ⟨r, -, h⟩ | ⟨-, -, -, h⟩ | ⟨hw, -, -, h⟩ | ⟨hw, -, h⟩ := s.write16Call_cases bus a p w <;> rw [h]
  · exact .refused r
  · exact .unreachable (hlog _)
  · exact .unreachable (hP.takes bus w (validAddress_of_writeRefusal hw) (hlog _))
  · exact .ok _ (hP.takes bus w (validAddress_of_writeRefusal hw) (hlog _))

theorem State.writeConfigCall_keeps (hP : KeptBy i P) (hi : i.target = some dev) (hs : P s) :
    (s.writeConfigCall dev).Keeps P :=
  .withController fun _ => .andThen (State.write16Call_keeps hP hs _ _ _ _) fun _ _ hu => .ok _ (hP.mark hi hu)

theorem State.sampleRawCall_keeps (hP : KeptBy i P) (hi : i.target = some dev) (hs : P s) (force : Bool) :
    (s.sampleRawCall dev force).Keeps P := by
  refine .withController fun c => .andThen ?_ fun _ u hu => State.read16Call_keeps hP hu _ _ _
  cases force
  · exact .ok _ hs
  · exact .andThen (State.writeConfigCall_keeps hP hi hs) fun _ u hu => .ok _ (hP.log _ hu)

theorem State.sampleVoltageCall_keeps (hP : KeptBy i P) (hi : i.target = some dev) (hs : P s) (force : Bool) :
    (s.sampleVoltageCall dev force).Keeps P :=
  .withController fun _ => .andThen (State.sampleRawCall_keeps hP hi hs force) fun _ _ hu => .ok _ hu

theorem State.readConfigCall_keeps (hP : KeptBy i P) (hs : P s) : (s.readConfigCall dev).Keeps P :=
  .withController fun _ => .andThen (State.read16Call_keeps hP hs _ _ _) fun _ _ hu => .ok _ hu

/-- The second half of RECONFIGURE answers only for a controller at a valid address. -/
theorem State.reconfigured_keeps (hP : KeptBy i P) (hi : i.target = some dev) (hw : i.writesShadow = some dev)
    (hs : P s) (c : Controller) : ((s.setController dev c).writeConfigCall dev).Keeps P := by
  intro u x h
  obtain ⟨c', hc', hv, -⟩ := State.writeConfigCall_next h
  rw [State.controllerOf_setController_same] at hc'
  cases hc'
  exact State.writeConfigCall_keeps hP hi (hP.store hw hv hs) u x h

/-- What every update of an operation keeps, the operation keeps. -/
theorem exec_keeps {t : State} (hP : KeptBy i P) (hs : P s) (h : exec i s = .next t) : P t := by
  cases i with
  | encode | decode | raw2v | fsr | sps | strobe => cases h; exact hP.returns _ hs
  | construct dev bus a ch gain mode dr =>
    by_cases hv : validAddress a = true
    · rw [exec_construct_valid hv] at h
      cases h
      exact hP.returns _ (hP.store rfl hv hs)
    · rw [exec_construct_invalid hv] at h
      cases h
      exact hP.raises nofun hs
  | writeConfig dev => exact (State.writeConfigCall_keeps hP rfl hs).finish hP h
  | sampleRaw dev force => exact (State.sampleRawCall_keeps hP rfl hs force).finish hP h
  | sampleVoltage dev force => exact (State.sampleVoltageCall_keeps hP rfl hs force).finish hP h
  | reconfigure dev ch gain mode dr =>
    exact (Reply.Keeps.withController fun _ => State.reconfigured_keeps hP rfl rfl hs _).finish hP h
  | readConfig dev => exact (State.readConfigCall_keeps hP hs).finish hP h
  | read16 bus a p => exact (State.read16Call_keeps hP hs bus a p).finish hP h
  | write16 bus a p w => exact (State.write16Call_keeps hP hs bus a p w).finish hP h
  | wait num den => cases h; exact hP.returns _ (hP.log _ hs)

end Keeps

/-! ### The caller's list -/

/-- No operation touches the caller's list. -/
theorem requests_keptBy (i : Instr) (l : List Request) : KeptBy i fun u => u.requests = l where
  spend h := h
  log _ h := h
  takes _ _ _ _ h := by simpa using h
  mark _ h := by simpa using h
  store _ _ h := h
  returns _ h := h
  raises _ h := h

/-- Settles O49: the request is taken off by `State.accept`, and the operation keeps the rest. -/
theorem operationsRunInTheOrderAsked : Obligations.OperationsRunInTheOrderAsked := by
  intro s t h
  obtain ⟨hr, rfl⟩ | ⟨i, hi⟩ := step_next h
  · rw [hr, List.tail_nil]
  · exact exec_keeps (requests_keptBy i _) s.accept_requests hi

/-! ### The shadow registers -/

/-- The ghost flag is no shadow register. -/
theorem State.shadow_markConfigured (s : State) (dev other : Byte) :
    ((s.markConfigured dev).controllerOf other).map Controller.shadow =
      (s.controllerOf other).map Controller.shadow := by
  rcases hc : s.controllerOf dev with _ | c
  · simp [State.markConfigured, hc]
  · rw [State.markConfigured_eq hc]
    by_cases ho : other = dev
    · subst ho
      simp [hc, Controller.shadow]
    · rw [State.controllerOf_setController_other _ _ ho]

/-- The shadow registers of a controller are kept by an operation that does not write them. -/
theorem shadow_keptBy {i : Instr} {dev : Byte} (hi : i.writesShadow ≠ some dev)
    (x : Option (Byte × ChannelSelector × GainRange × OperatingMode × DataRate × Byte)) :
    KeptBy i fun u => (u.controllerOf dev).map Controller.shadow = x where
  spend h := h
  log _ h := h
  takes _ _ _ _ h := by simpa using h
  mark _ h := (State.shadow_markConfigured _ _ _).trans h
  store {s dev' c} hw _ h := by
    have hne : dev ≠ dev' := fun e => hi (e ▸ hw)
    rwa [State.controllerOf_setController_other _ _ hne]
  returns _ h := h
  raises _ h := h

/-- Settles O37: the only update that writes shadow registers is the one of CONSTRUCT and RECONFIGURE. -/
theorem onlyConstructAndReconfigureWriteShadows : Obligations.OnlyConstructAndReconfigureWriteShadows := by
  intro i s t dev h hi
  exact exec_keeps (shadow_keptBy hi _) rfl h

/-! ### The invariant -/

/-- Settles O50: the lists are empty, and nothing has been returned. -/
theorem resetMeetsTheInvariant : Obligations.ResetMeetsTheInvariant where
  memWf := rfl
  controllersSorted := rfl
  triggersSorted := rfl
  addressesValid := rfl
  memConfigOnly := rfl
  triggersPositive := rfl
  noUnknownField := nofun

/-- The byte addresses of a configuration register at a valid device address (20_memory.md R30 to R32). -/
theorem isConfigKey_regKey (bus : Byte) {a : Byte} (ha : validAddress a = true) {k : Nat} (hk : k < 2) :
    isConfigKey (regKey bus a ptrConfig + k) = true := by
  have hb := bus.isLt
  have ha' := a.isLt
  have hp : ptrConfig.toNat = 1 := rfl
  have hdev : BitVec.ofNat 8 ((regKey bus a ptrConfig + k) / 512) = a := by
    refine BitVec.eq_of_toNat_eq ?_
    simp only [BitVec.toNat_ofNat, regKey, hp]
    omega
  simp only [isConfigKey, hdev, ha, Bool.and_true, Bool.and_eq_true, decide_eq_true_eq]
  simp only [regKey, hp]
  omega

/-- The key of a device at a valid address. -/
theorem isDeviceKey_deviceKey (bus : Byte) {a : Byte} (ha : validAddress a = true) :
    isDeviceKey (deviceKey bus a) = true := by
  have hb := bus.isLt
  have ha' := a.isLt
  have hdev : BitVec.ofNat 8 (deviceKey bus a) = a := by
    refine BitVec.eq_of_toNat_eq ?_
    simp only [BitVec.toNat_ofNat, deviceKey]
    omega
  simp only [isDeviceKey, hdev, ha, Bool.true_and, decide_eq_true_eq]
  simp only [deviceKey]
  omega

namespace State.Inv

variable {s : State}

/-- Every stored ADDR is one of the four addresses (10_state.md R18). -/
theorem addr_valid {dev : Byte} {c : Controller} (hs : s.Inv) (hc : s.controllerOf dev = some c) :
    validAddress c.addr = true := by
  have := Assoc.of_get _ _ _ _ hs.addressesValid hc
  simp only [Bool.and_eq_true] at this
  exact this.2

theorem accept (hs : s.Inv) : s.accept.Inv := { hs with }

theorem writeByte (hs : s.Inv) {key : Nat} (hk : isConfigKey key = true) (b : Byte) : (s.writeByte key b).Inv :=
  { hs with
    memWf := Memory.wf_set _ _ _ hs.memWf
    memConfigOnly := Assoc.all_set _ _ _ _ hs.memConfigOnly hk }

theorem trigger (hs : s.Inv) (bus : Byte) {a : Byte} (ha : validAddress a = true) (w : Word16) :
    (s.trigger bus a w).Inv := by
  unfold State.trigger
  split
  · exact { hs with
      triggersSorted := Assoc.sorted_set _ _ _ hs.triggersSorted
      triggersPositive := Assoc.all_set _ _ _ _ hs.triggersPositive (by simp [isDeviceKey_deviceKey bus ha]) }
  · exact hs

theorem deviceTakes (hs : s.Inv) (bus : Byte) {a : Byte} (ha : validAddress a = true) (w : Word16) :
    (s.deviceTakes bus a w).Inv := by
  have hnoted : s.noteTaken.Inv := { hs with }
  exact ((hnoted.writeByte (isConfigKey_regKey bus ha (k := 0) (by omega)) _).writeByte
    (isConfigKey_regKey bus ha (k := 1) (by omega)) _).trigger bus ha w

theorem setController (hs : s.Inv) (dev : Byte) {c : Controller} (hc : validAddress c.addr = true) :
    (s.setController dev c).Inv :=
  { hs with
    controllersSorted := Assoc.sorted_set _ _ _ hs.controllersSorted
    addressesValid := Assoc.all_set _ _ _ _ hs.addressesValid (by simpa [hc] using dev.isLt) }

theorem markConfigured (hs : s.Inv) (dev : Byte) : (s.markConfigured dev).Inv := by
  unfold State.markConfigured
  split
  · rename_i c hc
    have hv := hs.addr_valid hc
    exact hs.setController dev hv
  · exact hs

/-- Every update that an operation is made of keeps the invariant. -/
theorem keptBy (i : Instr) : KeptBy i State.Inv where
  spend hs := { hs with }
  log _ hs := { hs with }
  takes bus _ w ha hs := hs.deviceTakes bus ha w
  mark _ hs := hs.markConfigured _
  store _ hc hs := hs.setController _ hc
  returns _ hs := { hs with noUnknownField := nofun }
  raises he hs := { hs with noUnknownField := fun h => he (by cases h; rfl) }

end State.Inv

/-- Settles O51: an idle step changes nothing, and an operation is made of updates that keep the invariant. -/
theorem everyStepKeepsTheInvariant : Obligations.EveryStepKeepsTheInvariant := by
  intro s t hs h
  obtain ⟨-, rfl⟩ | ⟨i, hi⟩ := step_next h
  · exact hs
  · exact exec_keeps (State.Inv.keptBy i) hs.accept hi

/-! ### Operations on a controller at a valid address answer -/

/-- The reply is an answer and no refusal. -/
def Reply.Answers {α : Type} (r : Reply α) : Prop := ∃ u, r = .next u

section Answers

variable {α β : Type} {s : State} {dev : Byte} {c : Controller}

theorem Reply.Answers.andThen {r : Reply α} {f : α → State → Reply β} (hr : r.Answers)
    (hf : ∀ a u, (f a u).Answers) : (r.andThen f).Answers := by
  obtain ⟨⟨u, a | e⟩, rfl⟩ := hr
  · exact ⟨_, rfl⟩
  · exact hf _ _

theorem Reply.Answers.finish {r : Reply α} (hr : r.Answers) (v : α → Value) : ∃ t, r.finish v = .next t := by
  obtain ⟨⟨u, a | e⟩, rfl⟩ := hr <;> exact ⟨_, rfl⟩

theorem State.read16Call_answers {bus a p : Byte} (h : readRefusal a p = none) : (s.read16Call bus a p).Answers := by
  rw [State.read16Call_eq s h]
  split <;> exact ⟨_, rfl⟩

theorem State.writeConfigCall_answers (hc : s.controllerOf dev = some c) (hv : validAddress c.addr = true) :
    (s.writeConfigCall dev).Answers := by
  rw [State.writeConfigCall_eq hc hv]
  split <;> exact ⟨_, rfl⟩

theorem State.sampleRawCall_answers (hc : s.controllerOf dev = some c) (hv : validAddress c.addr = true)
    (force : Bool) : (s.sampleRawCall dev force).Answers := by
  rw [State.sampleRawCall_eq force hc]
  split
  · exact (State.writeConfigCall_answers hc hv).andThen fun _ _ =>
      State.read16Call_answers (readRefusal_conversion hv)
  · exact State.read16Call_answers (readRefusal_conversion hv)

/-- An operation on a controller at a valid address runs to a result. -/
theorem exec_answers_of_target {i : Instr} (hi : i.target = some dev) (hc : s.controllerOf dev = some c)
    (hv : validAddress c.addr = true) : ∃ t, exec i s = .next t := by
  cases i with
  | writeConfig => cases hi; exact (State.writeConfigCall_answers hc hv).finish _
  | sampleRaw _ force => cases hi; exact (State.sampleRawCall_answers hc hv force).finish _
  | sampleVoltage _ force =>
    cases hi
    refine Reply.Answers.finish ?_ _
    rw [State.sampleVoltageCall_eq force hc]
    exact (State.sampleRawCall_answers hc hv force).andThen fun _ _ => ⟨_, rfl⟩
  | reconfigure _ ch gain mode dr =>
    cases hi
    have hnew := s.controllerOf_setController_same dev { c with ch := ch, gain := gain, mode := mode, dr := dr }
    obtain ⟨t, ht⟩ := (State.writeConfigCall_answers hnew hv).finish fun _ => .unit
    exact ⟨t, (execReconfigure_eq ch gain mode dr hc).trans ht⟩
  | readConfig =>
    cases hi
    refine Reply.Answers.finish ?_ _
    rw [State.readConfigCall_eq hc]
    exact (State.read16Call_answers (readRefusal_config hv)).andThen fun _ _ => ⟨_, rfl⟩
  | _ => cases hi

end Answers

/-- Settles O52: under the invariant the address of a controller is valid, and a step runs the operation on the
same controllers. -/
theorem controllerOperationsNeverStopUnderTheInvariant :
    Obligations.ControllerOperationsNeverStopUnderTheInvariant := by
  intro s i dev c hs hi hc
  refine ⟨exec_answers_of_target hi hc (hs.addr_valid hc), fun r rest hr hd => ?_⟩
  rw [step_of_decode hr hd]
  exact exec_answers_of_target hi hc (hs.addr_valid hc)

/-! ### The ghost flag -/

/-- Two states that agree in everything but the ghost flags of controllers. -/
structure State.Alike (s u : State) : Prop where
  rest : u = { s with controllers := u.controllers }
  shadows : ∀ dev, (u.controllerOf dev).map Controller.shadow = (s.controllerOf dev).map Controller.shadow

/-- If the first reply answers, the second answers with the same value or error, and in a state alike. -/
def Reply.Matches {α : Type} (r r' : Reply α) : Prop :=
  ∀ t x, r = .next (t, x) → ∃ t', r' = .next (t', x) ∧ t.Alike t'

/-- Equal shadow registers leave room for the ghost flag only. -/
theorem Controller.eq_of_shadow {c c' : Controller} (h : c'.shadow = c.shadow) :
    c' = { c with configured := c'.configured } := by
  cases c
  cases c'
  simpa [Controller.shadow] using h

namespace State.Alike

variable {s u : State}

/-- An update that neither reads nor writes the controllers keeps states alike. -/
theorem update {f : State → State}
    (hf : ∀ s cs, f { s with controllers := cs } = { f s with controllers := cs }) (h : s.Alike u) :
    (f s).Alike (f u) := by
  have hcs (v : State) : (f v).controllers = v.controllers :=
    (congrArg State.controllers (hf v v.controllers) :)
  refine ⟨?_, fun dev => ?_⟩
  · rw [hcs u, ← hf s, ← h.rest]
  · rw [State.controllerOf_congr (hcs u), State.controllerOf_congr (hcs s)]
    exact h.shadows dev

theorem log (h : s.Alike u) (e : BusEvent) : (s.log e).Alike (u.log e) := h.update (f := (·.log e)) fun _ _ => rfl
theorem spend (h : s.Alike u) : s.spend.Alike u.spend := h.update (f := State.spend) fun _ _ => rfl
theorem returns (h : s.Alike u) (v : Value) : (s.returns v).Alike (u.returns v) :=
  h.update (f := (·.returns v)) fun _ _ => rfl
theorem raises (h : s.Alike u) (e : ErrorKind) : (s.raises e).Alike (u.raises e) :=
  h.update (f := (·.raises e)) fun _ _ => rfl
theorem deviceTakes (h : s.Alike u) (bus a : Byte) (w : Word16) : (s.deviceTakes bus a w).Alike (u.deviceTakes bus a w) :=
  h.update (f := (·.deviceTakes bus a w)) fun _ _ => by
    unfold State.deviceTakes State.trigger
    split <;> rfl

theorem draw (h : s.Alike u) : u.draw = s.draw := by
  rw [h.rest]
  rfl
theorem delivered (h : s.Alike u) (bus a p : Byte) (d : Draw) : u.delivered bus a p d = s.delivered bus a p d := by
  rw [h.rest]
  rfl

theorem setController (h : s.Alike u) (dev : Byte) {c c' : Controller} (hc : c'.shadow = c.shadow) :
    (s.setController dev c).Alike (u.setController dev c') := by
  refine ⟨congrArg (fun v : State => v.setController dev c') h.rest, fun other => ?_⟩
  by_cases ho : other = dev
  · subst ho
    simp [hc]
  · rw [State.controllerOf_setController_other _ _ ho, State.controllerOf_setController_other _ _ ho]
    exact h.shadows other

/-- A controller of the one state is one of the other, but for the ghost flag. -/
theorem controllerOf_some (h : s.Alike u) {dev : Byte} {c : Controller} (hc : s.controllerOf dev = some c) :
    ∃ flag, u.controllerOf dev = some { c with configured := flag } := by
  have hs := h.shadows dev
  rw [hc, Option.map_some, Option.map_eq_some_iff] at hs
  obtain ⟨c', hc', hshadow⟩ := hs
  exact ⟨c'.configured, hc'.trans (congrArg some (Controller.eq_of_shadow hshadow))⟩

theorem markConfigured (h : s.Alike u) (dev : Byte) : (s.markConfigured dev).Alike (u.markConfigured dev) := by
  rcases hc : s.controllerOf dev with _ | c
  · have hu : u.controllerOf dev = none := by simpa [hc] using h.shadows dev
    simpa [State.markConfigured, hc, hu] using h
  · obtain ⟨flag, hu⟩ := h.controllerOf_some hc
    rw [State.markConfigured_eq hc, State.markConfigured_eq hu]
    exact h.setController dev rfl

end State.Alike

section Matches

variable {α β : Type} {s u : State} {dev : Byte}

theorem Reply.Matches.next (h : s.Alike u) (x : Except ErrorKind α) :
    Reply.Matches (.next (s, x)) (.next (u, x)) := by
  rintro t y ⟨⟩
  exact ⟨u, rfl, h⟩

theorem Reply.Matches.andThen {r r' : Reply α} {f g : α → State → Reply β} (hr : r.Matches r')
    (hf : ∀ a t t', t.Alike t' → (f a t).Matches (g a t')) : (r.andThen f).Matches (r'.andThen g) := by
  intro t x h
  obtain ⟨t₁, a, h₁, hfa⟩ | ⟨t₁, e, h₁, he⟩ := Reply.andThen_next h
  · obtain ⟨t₁', rfl, halike⟩ := hr _ _ h₁
    exact hf a _ _ halike t x hfa
  · cases he
    obtain ⟨t₁', rfl, halike⟩ := hr _ _ h₁
    exact ⟨t₁', rfl, halike⟩

theorem Reply.Matches.withController {f g : Controller → Reply α} (h : s.Alike u)
    (hf : ∀ c flag, (f c).Matches (g { c with configured := flag })) :
    (s.withController dev f).Matches (u.withController dev g) := by
  intro t x ht
  obtain ⟨c, hc, hfc⟩ := State.withController_next ht
  obtain ⟨flag, hu⟩ := h.controllerOf_some hc
  rw [State.withController_some g hu]
  exact hf c flag t x hfc

theorem Reply.Matches.finish {r r' : Reply α} {v : α → Value} {t : State} (hr : r.Matches r')
    (h : r.finish v = .next t) : ∃ t', r'.finish v = .next t' ∧ t.Alike t' := by
  obtain ⟨t₁, a, h₁, rfl⟩ | ⟨t₁, e, h₁, rfl⟩ := Reply.finish_next h
  · obtain ⟨t₁', rfl, halike⟩ := hr _ _ h₁
    exact ⟨_, rfl, halike.returns _⟩
  · obtain ⟨t₁', rfl, halike⟩ := hr _ _ h₁
    exact ⟨_, rfl, halike.raises _⟩

theorem State.read16Call_matches (h : s.Alike u) (bus a p : Byte) :
    (s.read16Call bus a p).Matches (u.read16Call bus a p) := by
  rcases hp : readRefusal a p with _ | r
  · rw [State.read16Call_eq s hp, State.read16Call_eq u hp, h.draw, h.delivered]
    split <;> exact .next (h.spend.log _) _
  · simp only [State.read16Call, hp]
    exact nofun

theorem State.write16Call_matches (h : s.Alike u) (bus a p : Byte) (w : Word16) :
    (s.write16Call bus a p w).Matches (u.write16Call bus a p w) := by
  rcases hp : writeRefusal a p with _ | r
  · rw [State.write16Call_eq s w hp, State.write16Call_eq u w hp, h.draw]
    split
    · split
      · exact .next ((h.spend.log _).deviceTakes bus a w) _
      · exact .next (h.spend.log _) _
    · exact .next ((h.spend.log _).deviceTakes bus a w) _
  · simp only [State.write16Call, hp]
    exact nofun

theorem State.writeConfigCall_matches (h : s.Alike u) (dev : Byte) :
    (s.writeConfigCall dev).Matches (u.writeConfigCall dev) :=
  .withController h fun _ _ => .andThen (State.write16Call_matches h _ _ _ _) fun _ _ _ ht =>
    .next (ht.markConfigured dev) _

theorem State.sampleRawCall_matches (h : s.Alike u) (dev : Byte) (force : Bool) :
    (s.sampleRawCall dev force).Matches (u.sampleRawCall dev force) := by
  refine .withController h fun c _ => .andThen ?_ fun _ _ _ ht => State.read16Call_matches ht _ _ _
  cases force
  · exact .next h _
  · exact .andThen (State.writeConfigCall_matches h dev) fun _ _ _ ht => .next (ht.log _) _

theorem State.sampleVoltageCall_matches (h : s.Alike u) (dev : Byte) (force : Bool) :
    (s.sampleVoltageCall dev force).Matches (u.sampleVoltageCall dev force) :=
  .withController h fun _ _ => .andThen (State.sampleRawCall_matches h dev force) fun _ _ _ ht => .next ht _

theorem State.readConfigCall_matches (h : s.Alike u) (dev : Byte) :
    (s.readConfigCall dev).Matches (u.readConfigCall dev) :=
  .withController h fun _ _ => .andThen (State.read16Call_matches h _ _ _) fun _ _ _ ht => .next ht _

/-- From two states alike an operation answers the same, in states alike. -/
theorem exec_alike {i : Instr} {t : State} (hsu : s.Alike u) (h : exec i s = .next t) :
    ∃ t', exec i u = .next t' ∧ t.Alike t' := by
  cases i with
  | encode | decode | raw2v | fsr | sps | strobe => cases h; exact ⟨_, rfl, hsu.returns _⟩
  | construct dev bus a ch gain mode dr =>
    by_cases hv : validAddress a = true
    · rw [exec_construct_valid hv] at h
      cases h
      exact ⟨_, exec_construct_valid hv, (hsu.setController dev rfl).returns _⟩
    · rw [exec_construct_invalid hv] at h
      cases h
      exact ⟨_, exec_construct_invalid hv, hsu.raises _⟩
  | writeConfig dev => exact (State.writeConfigCall_matches hsu dev).finish h
  | sampleRaw dev force => exact (State.sampleRawCall_matches hsu dev force).finish h
  | sampleVoltage dev force => exact (State.sampleVoltageCall_matches hsu dev force).finish h
  | reconfigure dev ch gain mode dr =>
    refine (Reply.Matches.withController hsu fun _ _ =>
      State.writeConfigCall_matches (hsu.setController dev ?_) dev).finish h
    rfl
  | readConfig dev => exact (State.readConfigCall_matches hsu dev).finish h
  | read16 bus a p => exact (State.read16Call_matches hsu bus a p).finish h
  | write16 bus a p w => exact (State.write16Call_matches hsu bus a p w).finish h
  | wait num den => cases h; exact ⟨_, rfl, (hsu.log _).returns _⟩

end Matches

/-- Writing a controller's ghost flag gives a state alike. -/
theorem State.alike_setFlag {s : State} {dev : Byte} {c : Controller} (hc : s.controllerOf dev = some c) (flag : Bool) :
    s.Alike (s.setController dev { c with configured := flag }) := by
  refine ⟨rfl, fun other => ?_⟩
  by_cases ho : other = dev
  · subst ho
    simp [hc, Controller.shadow]
  · rw [State.controllerOf_setController_other _ _ ho]

/-- Settles O39: states that differ in a ghost flag are alike, and from states alike an operation answers alike. -/
theorem ghostFlagIsNotRead : Obligations.GhostFlagIsNotRead := by
  intro i s t dev c flag hc h
  obtain ⟨t', ht', halike⟩ := exec_alike (State.alike_setFlag hc flag) h
  refine ⟨t', ht', ?_⟩
  rw [halike.rest]
  exact ⟨rfl, rfl, rfl, rfl, rfl, rfl⟩

end Sys2Proof.Machine

/-! ## The transport and what a write leaves on its device (20_memory.md)

`State.afterWrite` is the state after one write of a configuration register, whatever the draw says. Every form that
writes (WRITE16, WRITECONFIG, the forced samples, RECONFIGURE) leaves the register and the count of its device as
one such write does (`State.Wrote`). -/

namespace Sys2Proof.Machine

/-! ### Fields of a word -/

@[simp] theorem extractCh_insertFields (ch gain : Code3) (mode : Code1) (dr : Code3) :
    extractCh (insertFields ch gain mode dr) = ch := by
  rw [extractCh_eq_extract]
  ext i hi
  interval_cases i <;> simp [insertFields_getElem]

@[simp] theorem extractGain_insertFields (ch gain : Code3) (mode : Code1) (dr : Code3) :
    extractGain (insertFields ch gain mode dr) = gain := by
  rw [extractGain_eq_extract]
  ext i hi
  interval_cases i <;> simp [insertFields_getElem]

@[simp] theorem extractMode_insertFields (ch gain : Code3) (mode : Code1) (dr : Code3) :
    extractMode (insertFields ch gain mode dr) = mode := by
  rw [extractMode_eq_extract]
  ext i hi
  interval_cases i
  simp [insertFields_getElem]

@[simp] theorem extractDr_insertFields (ch gain : Code3) (mode : Code1) (dr : Code3) :
    extractDr (insertFields ch gain mode dr) = dr := by
  rw [extractDr_eq_extract]
  ext i hi
  interval_cases i <;> simp [insertFields_getElem]

/-- DECODE undoes ENCODE (41_decode.md R88). -/
@[simp] theorem decodeWord_encodeWord (t : Fields) : decodeWord (encodeWord t) = t := by
  simp [decodeWord, decUnit, encodeWord, encUnit]

/-- DECODE reads no bit outside its masks (41_decode.md R86). -/
theorem decodeWord_congr {w w' : Word16} (h : w &&& fieldMask = w' &&& fieldMask) : decodeWord w = decodeWord w' := by
  have hmask (m : Word16) (hm : fieldMask &&& m = m) : w &&& m = w' &&& m := by
    rw [← hm, ← BitVec.and_assoc, ← BitVec.and_assoc, h]
  simp only [decodeWord, decUnit, extractCh, extractGain, extractMode, extractDr, hmask chMask (by decide),
    hmask gainMask (by decide), hmask modeMask (by decide), hmask drMask (by decide)]

/-- The strobe is outside the masks. -/
theorem strobeWord_and_fieldMask (w : Word16) : strobeWord w &&& fieldMask = w &&& fieldMask := by
  have hstrobe : fieldMask &&& strobeBit = 0#16 := by decide
  rw [strobeWord, BitVec.and_comm, BitVec.and_or_distrib_left, hstrobe, BitVec.or_zero, BitVec.and_comm]

/-- The strobe does not disturb decoding (41_decode.md R90). -/
@[simp] theorem decodeWord_strobeWord (w : Word16) : decodeWord (strobeWord w) = decodeWord w :=
  decodeWord_congr (strobeWord_and_fieldMask w)

@[simp] theorem Controller.decodeWord_word (c : Controller) : decodeWord c.word = c.fields := by
  simp [Controller.word]

/-- The mode is SingleShot if its bit is set (30_encoding.md R53, D8). -/
theorem decide_ofCode_singleShot (c : Code1) : decide (OperatingMode.ofCode c = .singleShot) = c.getLsbD 0 := by
  revert c
  exact Code1.cases rfl rfl

/-- The two bits that start a conversion (20_memory.md R38). -/
theorem startsConversion_eq_bits (w : Word16) : startsConversion w = (w.getLsbD 15 && w.getLsbD 8) := by
  rw [startsConversion, decide_ofCode_singleShot, extractMode_eq_extract]
  simp

/-- The word of a configuration carries the strobe, so its mode alone decides. -/
theorem startsConversion_strobed (t : Fields) :
    startsConversion (strobeWord (encodeWord t)) = decide (t.mode = .singleShot) := by
  have hstrobe : (strobeWord (encodeWord t)).getLsbD 15 = true := by simp [strobeWord, strobeBit]
  have hmode : OperatingMode.ofCode (extractMode (strobeWord (encodeWord t))) = t.mode :=
    congrArg Fields.mode ((decodeWord_strobeWord _).trans (decodeWord_encodeWord t))
  rw [startsConversion, hstrobe, hmode, Bool.true_and]

/-- A read of the configuration register shows bits 14:5 of what it holds (93_implementation_defined.md U2). -/
theorem State.delivered_config_and_fieldMask (s : State) (bus a : Byte) (d : Draw) :
    joinBytes (s.delivered bus a ptrConfig d).1 (s.delivered bus a ptrConfig d).2 &&& fieldMask =
      s.configReg bus a &&& fieldMask := by
  rw [State.delivered_config]
  ext i hi
  simp only [BitVec.getElem_and, BitVec.getElem_or, BitVec.getElem_not]
  cases fieldMask[i] <;> simp

/-! ### Refusals -/

/-- The four addresses (20_memory.md R31). -/
theorem validAddress_iff (a : Byte) : validAddress a = true ↔ a = 0x48 ∨ a = 0x49 ∨ a = 0x4A ∨ a = 0x4B := by
  simp [validAddress, or_assoc]

theorem exec_read16_refused {bus a p : Byte} {r : Refusal} (h : readRefusal a p = some r) (s : State) :
    exec (.read16 bus a p) s = .refused r := by
  simp [exec, execRead16, State.read16Call, h]

theorem exec_write16_refused {bus a p : Byte} {r : Refusal} (h : writeRefusal a p = some r) (v : Word16) (s : State) :
    exec (.write16 bus a p v) s = .refused r := by
  simp [exec, execWrite16, State.write16Call, h]

/-- Settles O26: the address is tested before the pointer, and the pointer before the call is made. -/
theorem transportRefusesOtherRegisters : Obligations.TransportRefusesOtherRegisters := by
  intro bus a p v s
  refine ⟨fun ha => ?_, fun ha h0 h1 => ?_, fun ha => ?_, validAddress_iff a⟩
  · exact ⟨exec_read16_refused (by simp [readRefusal, ha]) s, exec_write16_refused (by simp [writeRefusal, ha]) v s⟩
  · have hconv : p ≠ ptrConversion := h0
    have hcfg : p ≠ ptrConfig := h1
    exact ⟨exec_read16_refused (by simp [readRefusal, ha, hconv, hcfg]) s,
      exec_write16_refused (by simp [writeRefusal, ha, hconv, hcfg]) v s⟩
  · have hrefusal : writeRefusal a ptrConversion = some .conversionWrite := by
      have hne : ptrConversion ≠ ptrConfig := by decide
      simp [writeRefusal, ha, hne]
    exact exec_write16_refused hrefusal v s

/-! ### One write -/

/-- The device takes the word of a write: it succeeds, or it fails and has landed (20_memory.md R38, R40). -/
def Draw.takesWrite (d : Draw) : Bool := !d.fails || d.landed

/-- The state after a write of `v` to the configuration register of a device, successful or not. -/
def State.afterWrite (s : State) (bus a : Byte) (v : Word16) : State :=
  let sent := s.spend.log (.write bus a ptrConfig (hiByte v) (loByte v) (!s.draw.fails))
  if s.draw.takesWrite then sent.deviceTakes bus a v else sent

section AfterWrite

variable (s : State) (bus a : Byte) (v : Word16)

@[simp] theorem State.afterWrite_bus : (s.afterWrite bus a v).bus =
    .write bus a ptrConfig (hiByte v) (loByte v) (!s.draw.fails) :: s.bus := by
  unfold State.afterWrite; split <;> simp
@[simp] theorem State.afterWrite_requests : (s.afterWrite bus a v).requests = s.requests := by
  unfold State.afterWrite; split <;> simp
@[simp] theorem State.afterWrite_calls : (s.afterWrite bus a v).calls = s.calls + 1 := by
  unfold State.afterWrite; split <;> simp
@[simp] theorem State.afterWrite_stub : (s.afterWrite bus a v).stub = s.stub.tail := by
  unfold State.afterWrite; split <;> simp
@[simp] theorem State.afterWrite_taken : (s.afterWrite bus a v).taken =
    if s.draw.takesWrite then (s.calls + 1) :: s.taken else s.taken := by
  unfold State.afterWrite; split <;> simp
@[simp] theorem State.controllerOf_afterWrite (dev : Byte) :
    (s.afterWrite bus a v).controllerOf dev = s.controllerOf dev := by
  unfold State.afterWrite; split <;> simp

theorem State.configReg_afterWrite : (s.afterWrite bus a v).configReg bus a =
    if s.draw.takesWrite then v else s.configReg bus a := by
  unfold State.afterWrite; split <;> simp

theorem State.triggerCount_afterWrite : (s.afterWrite bus a v).triggerCount bus a =
    s.triggerCount bus a + if s.draw.takesWrite && startsConversion v then 1 else 0 := by
  unfold State.afterWrite
  split
  · simp [State.triggerCount_deviceTakes, *]
  · simp [*]

theorem State.afterWrite_memoryKeptOutside : MemoryKeptOutside bus a s (s.afterWrite bus a v) := by
  intro key h0 h1
  unfold State.afterWrite
  split
  · rw [State.readByte_deviceTakes _ _ _ _ h0 h1]; rfl
  · rfl

theorem State.afterWrite_triggersKeptOutside : TriggersKeptOutside bus a s (s.afterWrite bus a v) := by
  intro b a' h
  unfold State.afterWrite
  split
  · rw [State.triggerCount_deviceTakes_other _ _ h]; rfl
  · rfl

variable {a}

theorem State.write16Call_config (hv : validAddress a = true) : s.write16Call bus a ptrConfig v =
    .next (s.afterWrite bus a v, if s.draw.fails then .error .deviceUnreachable else .ok ()) := by
  rw [State.write16Call_eq _ _ (writeRefusal_config hv)]
  cases hf : s.draw.fails <;> cases hl : s.draw.landed <;> simp [State.afterWrite, Draw.takesWrite, hf, hl]

/-- WRITE16 of a configuration register. -/
theorem exec_write16_config (hv : validAddress a = true) : exec (.write16 bus a ptrConfig v) s =
    .next { s.afterWrite bus a v with
      result := some (if s.draw.fails then .err .deviceUnreachable else .ok .unit) } := by
  change (s.write16Call bus a ptrConfig v).finish _ = _
  rw [State.write16Call_config s bus v hv]
  cases s.draw.fails <;> rfl

end AfterWrite

/-- Settles O20: one write, then the result; of the state only the register and the count of the device move. -/
theorem write16SendsTheWordHighByteFirst : Obligations.Write16SendsTheWordHighByteFirst := by
  intro bus a v s ha
  refine ⟨_, exec_write16_config s bus v ((validAddress_iff a).mpr ha), ?_, rfl, fun dev => ?_,
    s.afterWrite_memoryKeptOutside bus a v, s.afterWrite_triggersKeptOutside bus a v, s.afterWrite_requests bus a v,
    s.afterWrite_calls bus a v, s.afterWrite_stub bus a v, ?_⟩
  · rw [← hiByte_eq_extract, ← loByte_eq_extract]
    exact s.afterWrite_bus bus a v
  · exact s.controllerOf_afterWrite bus a v dev
  · refine (s.afterWrite_taken bus a v).trans ?_
    cases hf : s.draw.fails <;> cases hl : s.draw.landed <;> simp [Draw.takesWrite, hf, hl]

/-! ### Every form that writes -/

/-- From `s` to `t` the device at `a` saw one write of `w`, with the draw of `s`: what its configuration register
then holds and how many conversions it has started (20_memory.md R38, R40). -/
structure State.Wrote (s t : State) (bus a : Byte) (w : Word16) : Prop where
  configReg : t.configReg bus a = if s.draw.takesWrite then w else s.configReg bus a
  triggerCount : t.triggerCount bus a =
    s.triggerCount bus a + if s.draw.takesWrite && startsConversion w then 1 else 0

namespace State.Wrote

variable {s t u : State} {bus a dev : Byte} {w : Word16} {c : Controller}

theorem afterWrite (s : State) (bus a : Byte) (w : Word16) : s.Wrote (s.afterWrite bus a w) bus a w :=
  ⟨s.configReg_afterWrite bus a w, s.triggerCount_afterWrite bus a w⟩

/-- What follows the write leaves the device as it is. -/
theorem congr (h : s.Wrote t bus a w) (hmem : u.mem = t.mem) (htriggers : u.triggers = t.triggers) :
    s.Wrote u bus a w :=
  ⟨(State.configReg_congr hmem bus a).trans h.configReg, (State.triggerCount_congr htriggers bus a).trans h.triggerCount⟩

/-- The result is no part of the device. -/
theorem finish {α : Type} {r : Reply α} (h : ∃ t x, r = .next (t, x) ∧ s.Wrote t bus a w) (v : α → Value) :
    ∃ u, r.finish v = .next u ∧ s.Wrote u bus a w := by
  obtain ⟨t, x, rfl, h⟩ := h
  cases x with
  | ok y => exact ⟨_, rfl, h.congr rfl rfl⟩
  | error e => exact ⟨_, rfl, h.congr rfl rfl⟩

theorem configReg_of_ok (h : s.Wrote t bus a w) (hf : s.draw.fails = false) : t.configReg bus a = w := by
  simp [h.configReg, Draw.takesWrite, hf]

theorem configReg_of_failed (h : s.Wrote t bus a w) (hf : s.draw.fails = true) :
    t.configReg bus a = if s.draw.landed then w else s.configReg bus a := by
  simp [h.configReg, Draw.takesWrite, hf]

theorem exec_write16 (hv : validAddress a = true) (bus : Byte) (w : Word16) (s : State) :
    ∃ t, exec (.write16 bus a ptrConfig w) s = .next t ∧ s.Wrote t bus a w :=
  ⟨_, exec_write16_config s bus w hv, (afterWrite s bus a w).congr rfl rfl⟩

theorem writeConfigCall (hc : s.controllerOf dev = some c) (hv : validAddress c.addr = true) :
    ∃ t x, s.writeConfigCall dev = .next (t, x) ∧ s.Wrote t c.bus c.addr c.word := by
  have hw := afterWrite s c.bus c.addr c.word
  have he : s.writeConfigCall dev = (s.write16Call c.bus c.addr ptrConfig c.word).andThen fun _ s' =>
      .next (s'.markConfigured dev, .ok ()) := State.withController_some _ hc
  rw [he, State.write16Call_config s c.bus c.word hv]
  cases s.draw.fails
  · exact ⟨_, _, rfl, hw.congr (by simp) (by simp)⟩
  · exact ⟨_, _, rfl, hw⟩

/-- A forced sample writes once, whatever its read then does. -/
theorem sampleRawCall (hc : s.controllerOf dev = some c) (hv : validAddress c.addr = true) :
    ∃ t x, s.sampleRawCall dev true = .next (t, x) ∧ s.Wrote t c.bus c.addr c.word := by
  obtain ⟨u, x, hu, hw⟩ := writeConfigCall hc hv
  obtain ⟨t, y, ht, -, hmem, htriggers, -⟩ := State.sampleRawCall_forced hc hv hu
  exact ⟨t, y, ht, hw.congr hmem htriggers⟩

theorem sampleVoltageCall (hc : s.controllerOf dev = some c) (hv : validAddress c.addr = true) :
    ∃ t x, s.sampleVoltageCall dev true = .next (t, x) ∧ s.Wrote t c.bus c.addr c.word := by
  obtain ⟨t, x, ht, hw⟩ := sampleRawCall hc hv
  rw [State.sampleVoltageCall_eq true hc, ht]
  cases x with
  | ok raw => exact ⟨_, _, rfl, hw⟩
  | error e => exact ⟨_, _, rfl, hw⟩

/-- The three operations that write the stored configuration. -/
theorem exec_stored {i : Instr} (hi : i = .writeConfig dev ∨ i = .sampleRaw dev true ∨ i = .sampleVoltage dev true)
    (hc : s.controllerOf dev = some c) (hv : validAddress c.addr = true) :
    ∃ t, exec i s = .next t ∧ s.Wrote t c.bus c.addr c.word := by
  obtain rfl | rfl | rfl := hi
  · exact finish (writeConfigCall hc hv) _
  · exact finish (sampleRawCall hc hv) _
  · exact finish (sampleVoltageCall hc hv) _

/-- RECONFIGURE writes the configuration it stores; storing touches neither the device nor the draw. -/
theorem exec_reconfigure (ch : ChannelSelector) (gain : GainRange) (mode : OperatingMode) (dr : DataRate)
    (hc : s.controllerOf dev = some c) (hv : validAddress c.addr = true) :
    ∃ t, exec (.reconfigure dev ch gain mode dr) s = .next t ∧
      s.Wrote t c.bus c.addr (strobeWord (encodeWord ⟨ch, gain, mode, dr⟩)) := by
  have hnew := s.controllerOf_setController_same dev { c with ch := ch, gain := gain, mode := mode, dr := dr }
  obtain ⟨t, ht, hw⟩ := exec_stored (.inl rfl) hnew hv
  exact ⟨t, (execReconfigure_eq ch gain mode dr hc).trans ht, hw.configReg, hw.triggerCount⟩

end State.Wrote

/-- Settles O21: every form that writes leaves the register as one write does, and the device takes a successful one. -/
theorem successfulWriteIsHeldByTheDevice : Obligations.SuccessfulWriteIsHeldByTheDevice := by
  refine ⟨fun bus a v s hv hf => ?_, fun dev c s i hi hc hv hf => ?_, fun dev ch gain mode dr c s hc hv hf => ?_⟩
  · obtain ⟨t, ht, hw⟩ := State.Wrote.exec_write16 hv bus v s
    exact ⟨t, ht, hw.configReg_of_ok hf⟩
  · obtain ⟨t, ht, hw⟩ := State.Wrote.exec_stored hi hc hv
    exact ⟨t, ht, hw.configReg_of_ok hf⟩
  · obtain ⟨t, ht, hw⟩ := State.Wrote.exec_reconfigure ch gain mode dr hc hv
    exact ⟨t, ht, hw.configReg_of_ok hf⟩

/-- Settles O22: every form that writes leaves the register as one write does, and the draw decides on a failed one. -/
theorem failedWriteLeavesOldOrNew : Obligations.FailedWriteLeavesOldOrNew := by
  refine ⟨fun bus a v s hv hf => ?_, fun dev c s i hi hc hv hf => ?_, fun dev ch gain mode dr c s hc hv hf => ?_⟩
  · obtain ⟨t, ht, hw⟩ := State.Wrote.exec_write16 hv bus v s
    exact ⟨t, ht, hw.configReg_of_failed hf⟩
  · obtain ⟨t, ht, hw⟩ := State.Wrote.exec_stored hi hc hv
    exact ⟨t, ht, hw.configReg_of_failed hf⟩
  · obtain ⟨t, ht, hw⟩ := State.Wrote.exec_reconfigure ch gain mode dr hc hv
    exact ⟨t, ht, hw.configReg_of_failed hf⟩

/-- Settles O25: every form that writes leaves the count as one write does, and the words of a controller carry the
strobe. -/
theorem strobedSingleShotWriteStartsOneConversion : Obligations.StrobedSingleShotWriteStartsOneConversion := by
  refine ⟨fun bus a v s hv => ?_, fun dev c s i hi hc hv => ?_, fun dev ch gain mode dr c s hc hv => ?_⟩
  · obtain ⟨t, ht, hw⟩ := State.Wrote.exec_write16 hv bus v s
    refine ⟨t, ht, ?_⟩
    rw [hw.triggerCount, startsConversion_eq_bits, Draw.takesWrite, Bool.and_assoc]
  · obtain ⟨t, ht, hw⟩ := State.Wrote.exec_stored hi hc hv
    refine ⟨t, ht, ?_⟩
    rw [hw.triggerCount, Controller.word, startsConversion_strobed, Draw.takesWrite, Controller.fields]
  · obtain ⟨t, ht, hw⟩ := State.Wrote.exec_reconfigure ch gain mode dr hc hv
    refine ⟨t, ht, ?_⟩
    rw [hw.triggerCount, startsConversion_strobed, Draw.takesWrite]

/-! ### One read -/

section Read

variable {s : State} {bus a p dev : Byte} {c : Controller}

/-- The two registers that the transport reads (20_memory.md R31, R32). -/
theorem readRefusal_of_register (hv : validAddress a = true) (hp : p = ptrConversion ∨ p = ptrConfig) :
    readRefusal a p = none := by
  rw [readRefusal, if_pos hv, if_pos hp]

theorem exec_read16_failed (h : readRefusal a p = none) (hf : s.draw.fails = true) :
    exec (.read16 bus a p) s = .next ((s.spend.log (.readFailed bus a p)).raises .deviceUnreachable) := by
  simp [exec, execRead16, State.read16Call_eq s h, hf]

theorem exec_read16_ok (h : readRefusal a p = none) (hf : s.draw.fails = false) :
    exec (.read16 bus a p) s =
      .next ((s.spend.log (.read bus a p (s.delivered bus a p s.draw).1 (s.delivered bus a p s.draw).2)).returns
        (.word (joinBytes (s.delivered bus a p s.draw).1 (s.delivered bus a p s.draw).2))) := by
  simp [exec, execRead16, State.read16Call_eq s h, hf]

/-- READCONFIG returns the fields of the word that the register holds: the open bits are not decoded. -/
theorem exec_readConfig_ok (hc : s.controllerOf dev = some c) (hv : validAddress c.addr = true)
    (hf : s.draw.fails = false) :
    exec (.readConfig dev) s =
      .next ((s.spend.log (.read c.bus c.addr ptrConfig (s.delivered c.bus c.addr ptrConfig s.draw).1
        (s.delivered c.bus c.addr ptrConfig s.draw).2)).returns
          (.fields (decodeWord (s.configReg c.bus c.addr)))) := by
  rw [← decodeWord_congr (s.delivered_config_and_fieldMask c.bus c.addr s.draw)]
  simp [exec, execReadConfig, State.readConfigCall_eq hc, State.read16Call_eq s (readRefusal_config hv), hf]

end Read

/-- Settles O23: a read adds its event and gives its result; nothing else but the count of calls moves. -/
theorem read16ReturnsTheRegister : Obligations.Read16ReturnsTheRegister := by
  intro bus a p s ha hp
  have hr := readRefusal_of_register ((validAddress_iff a).mpr ha) hp
  cases hf : s.draw.fails with
  | true =>
    exact ⟨_, exec_read16_failed hr hf, fun _ => ⟨rfl, rfl⟩, nofun, fun _ => rfl, fun _ => rfl, fun _ _ => rfl, rfl, rfl,
      rfl, rfl⟩
  | false =>
    refine ⟨_, exec_read16_ok hr hf, nofun, fun _ => ⟨_, _, _, rfl, rfl, joinBytes_toNat _ _, ?_, ?_⟩, fun _ => rfl,
      fun _ => rfl, fun _ _ => rfl, rfl, rfl, rfl, rfl⟩
    · rintro rfl
      simp
    · rintro rfl
      exact s.delivered_config_and_fieldMask bus a s.draw

/-- A WRITECONFIG that returned `Ok` has written, and has kept the shadow registers. -/
theorem exec_writeConfig_ok {s t : State} {dev : Byte} {c : Controller} (hc : s.controllerOf dev = some c)
    (h : exec (.writeConfig dev) s = .next t) (hok : t.result = some (.ok .unit)) :
    t.configReg c.bus c.addr = c.word ∧ t.controllerOf dev = some { c with configured := true } := by
  obtain ⟨u, x, hu, rfl⟩ | ⟨u, e, hu, rfl⟩ := Reply.finish_next h
  · obtain ⟨c', hc', -, ⟨-, he, -⟩ | ⟨-, he, -⟩ | ⟨-, -, rfl⟩⟩ := State.writeConfigCall_next hu
    · cases he
    · cases he
    · obtain rfl : c = c' := Option.some.inj (hc.symm.trans hc')
      simp
  · cases hok

/-- Settles O46: the register holds the strobed encoding of the stored fields, and DECODE undoes it. -/
theorem readBackReturnsTheWrittenConfiguration : Obligations.ReadBackReturnsTheWrittenConfiguration := by
  intro dev c s t hc hv h hok hf
  obtain ⟨hreg, hc'⟩ := exec_writeConfig_ok hc h hok
  refine ⟨_, exec_readConfig_ok hc' hv hf, ?_⟩
  rw [State.returns_result, hreg, Controller.decodeWord_word, Controller.fields]

end Sys2Proof.Machine

/-! ## Requests, table words and the bytes on the transport (30_encoding.md)

Each part of the decoder has a lemma that says for which bytes it answers which operand or operation. Read one way it
decodes what `encode` writes, read the other way it shows that no other bytes decode to the same. -/

namespace Sys2Proof

/-! ### Operand bytes -/

theorem code3OfByte_setWidth (c : Code3) : code3OfByte (c.setWidth 8) = .ok c := by
  revert c
  exact Code3.cases rfl rfl rfl rfl rfl rfl rfl rfl

theorem code1OfByte_setWidth (c : Code1) : code1OfByte (c.setWidth 8) = .ok c := by
  revert c
  exact Code1.cases rfl rfl

theorem code3OfByte_eq_ok_iff {b : Byte} {c : Code3} : code3OfByte b = .ok c ↔ b = c.setWidth 8 := by
  refine ⟨fun h => ?_, fun h => h ▸ code3OfByte_setWidth c⟩
  unfold code3OfByte at h
  split at h
  · next hb =>
    cases h
    exact (BitVec.setWidth_setWidth_eq_self (BitVec.lt_def.mpr hb)).symm
  · cases h

theorem code1OfByte_eq_ok_iff {b : Byte} {c : Code1} : code1OfByte b = .ok c ↔ b = c.setWidth 8 := by
  refine ⟨fun h => ?_, fun h => h ▸ code1OfByte_setWidth c⟩
  unfold code1OfByte at h
  split at h
  · next hb =>
    cases h
    exact (BitVec.setWidth_setWidth_eq_self (BitVec.lt_def.mpr hb)).symm
  · cases h

theorem GainRange.eq_code_iff {c : Code3} {gain : GainRange} : c = gain.code ↔ gain = .ofCode c := by
  constructor <;> rintro rfl <;> simp

theorem DataRate.eq_code_iff {c : Code3} {dr : DataRate} : c = dr.code ↔ dr = .ofCode c := by
  constructor <;> rintro rfl <;> simp

theorem forceByte_beq_one (c : Code1) : forceByte (c == 1) = c.setWidth 8 := by
  revert c
  exact Code1.cases rfl rfl

theorem decodeForce_eq_ok_iff {f : Byte} {force : Bool} : decodeForce f = .ok force ↔ f = forceByte force := by
  constructor
  · intro h
    unfold decodeForce at h
    split at h
    · next c hc =>
      cases h
      exact (code1OfByte_eq_ok_iff.mp hc).trans (forceByte_beq_one c).symm
    · cases h
  · rintro rfl
    cases force <;> rfl

@[simp] theorem wordBytes_joinBytes (b0 b1 : Byte) : wordBytes (joinBytes b0 b1) = [b0, b1] := by
  simp [wordBytes]

theorem append_byte_toNat {n : Nat} (x : BitVec n) (b : Byte) : (x ++ b).toNat = x.toNat * 256 + b.toNat := by
  rw [BitVec.toNat_append, ← Nat.shiftLeft_add_eq_or_of_lt b.isLt, Nat.shiftLeft_eq]

theorem joinFour_toNat (b3 b2 b1 b0 : Byte) :
    (joinFour b3 b2 b1 b0).toNat = ((b3.toNat * 256 + b2.toNat) * 256 + b1.toNat) * 256 + b0.toNat := by
  rw [← append_byte_toNat, ← append_byte_toNat, ← append_byte_toNat]
  rfl

theorem joinFour_fourBytes (n : BitVec 32) :
    joinFour ((n >>> 24).setWidth 8) ((n >>> 16).setWidth 8) ((n >>> 8).setWidth 8) (n.setWidth 8) = n := by
  apply BitVec.eq_of_toNat_eq
  simp only [joinFour_toNat, BitVec.toNat_setWidth, BitVec.toNat_ushiftRight, Nat.shiftRight_eq_div_pow]
  omega

@[simp] theorem fourBytes_joinFour (b3 b2 b1 b0 : Byte) : fourBytes (joinFour b3 b2 b1 b0) = [b3, b2, b1, b0] := by
  simp only [fourBytes, List.cons.injEq, and_true, BitVec.toNat_eq, joinFour_toNat, BitVec.toNat_setWidth,
    BitVec.toNat_ushiftRight, Nat.shiftRight_eq_div_pow]
  omega

end Sys2Proof

namespace Sys2Proof.Machine

/-! ### The bytes of a transport call -/

/-- The only register the transport lets a caller write (20_memory.md R31, R32, D24). -/
theorem register_of_writeRefusal {a p : Byte} (h : writeRefusal a p = none) :
    validAddress a = true ∧ p = ptrConfig := by
  have hv := validAddress_of_writeRefusal h
  refine ⟨hv, ?_⟩
  by_contra hp
  rw [writeRefusal, if_pos hv, if_neg hp] at h
  split at h <;> cases h

theorem exec_write16_bus {bus a p : Byte} {v : Word16} {s t : State} (h : exec (.write16 bus a p v) s = .next t) :
    t.bus = .write bus a p (hiByte v) (loByte v) (!s.draw.fails) :: s.bus := by
  cases hr : writeRefusal a p with
  | some r =>
    rw [exec_write16_refused hr] at h
    cases h
  | none =>
    obtain ⟨hv, rfl⟩ := register_of_writeRefusal hr
    rw [exec_write16_config s bus v hv] at h
    cases h
    exact s.afterWrite_bus bus a v

theorem exec_read16_word {bus a p : Byte} {s t : State} {w : Word16} (h : exec (.read16 bus a p) s = .next t)
    (hw : t.result = some (.ok (.word w))) : ∃ b0 b1, t.bus = .read bus a p b0 b1 :: s.bus ∧ w = joinBytes b0 b1 := by
  cases hr : readRefusal a p with
  | some r =>
    rw [exec_read16_refused hr] at h
    cases h
  | none =>
    cases hf : s.draw.fails with
    | true =>
      rw [exec_read16_failed hr hf] at h
      cases h
      cases hw
    | false =>
      rw [exec_read16_ok hr hf] at h
      cases h
      cases hw
      exact ⟨_, _, rfl, rfl⟩

/-- Settles O24: the event of a call holds the word's `hiByte` first and its `loByte` second, the order `joinBytes`
takes them in. -/
theorem transportIsMostSignificantByteFirst : Obligations.TransportIsMostSignificantByteFirst := by
  refine ⟨fun bus a p v s t h => ?_, fun bus a p s t w h hw => ?_⟩
  · exact ⟨_, _, _, exec_write16_bus h, hiByte_eq_extract v, loByte_eq_extract v⟩
  · exact exec_read16_word h hw

/-! ### Words with fixed bits -/

/-- The masks split a word into its fields and its fixed bits (30_encoding.md R61, R64). -/
theorem and_fieldMask_or_and_fixedMask (w : Word16) : (w &&& fieldMask) ||| (w &&& fixedMask) = w := by
  have hall : fieldMask ||| fixedMask = BitVec.allOnes 16 := by decide
  rw [← BitVec.and_or_distrib_left, hall, BitVec.and_allOnes]

/-- ENCODE of what DECODE returns keeps the fields and writes the fixed tail (41_decode.md R89). -/
theorem encodeWord_decodeWord (w : Word16) : encodeWord (decodeWord w) = (w &&& fieldMask) ||| lowFixed := by
  have hfields : encodeWord (decodeWord w) =
      insertFields (extractCh w) (extractGain w) (extractMode w) (extractDr w) := by
    simp [encodeWord, decodeWord, decUnit, encUnit]
  ext i hi
  rw [hfields, insertFields_getElem _ _ _ _ hi, extractCh_eq_extract, extractGain_eq_extract, extractMode_eq_extract,
    extractDr_eq_extract]
  interval_cases i <;> simp [fieldMask, chMask, gainMask, modeMask, drMask, lowFixed]

/-- ENCODE writes the fixed bits of its pattern (30_encoding.md R64). -/
theorem encodeWord_and_fixedMask (t : Fields) : encodeWord t &&& fixedMask = lowFixed := by
  ext i hi
  simp only [encodeWord, encUnit, BitVec.getElem_and, insertFields_getElem _ _ _ _ hi]
  interval_cases i <;> simp [fixedMask, lowFixed]

theorem strobeWord_encodeWord_and_fixedMask (t : Fields) :
    strobeWord (encodeWord t) &&& fixedMask = strobeBit ||| lowFixed := by
  have hstrobe : fixedMask &&& strobeBit = strobeBit := by decide
  rw [strobeWord, BitVec.and_comm, BitVec.and_or_distrib_left, hstrobe, BitVec.and_comm fixedMask,
    encodeWord_and_fixedMask, BitVec.or_comm]

theorem eq_encodeWord_of_fixedBits {w : Word16} (h : w &&& fixedMask = lowFixed) : w = encodeWord (decodeWord w) := by
  rw [encodeWord_decodeWord, ← h, and_fieldMask_or_and_fixedMask]

theorem eq_strobeWord_of_fixedBits {w : Word16} (h : w &&& fixedMask = strobeBit ||| lowFixed) :
    w = strobeWord (encodeWord (decodeWord w)) := by
  rw [strobeWord, encodeWord_decodeWord, BitVec.or_assoc, BitVec.or_comm lowFixed, ← h, and_fieldMask_or_and_fixedMask]

/-! ### The parts of the decoder -/

section Decoders

variable {i : Instr}

theorem decodeEncode_eq_ok_iff {w : Word16} :
    decodeEncode w = .ok i ↔ ∃ t : Fields, w = encodeWord t ∧ i = .encode t.ch t.gain t.mode t.dr := by
  constructor
  · intro h
    unfold decodeEncode at h
    split at h
    · next hw =>
      cases h
      exact ⟨decodeWord w, eq_encodeWord_of_fixedBits hw, rfl⟩
    · cases h
  · rintro ⟨t, rfl, rfl⟩
    rw [decodeEncode, if_pos (encodeWord_and_fixedMask t)]
    exact congrArg (fun u : Fields => Except.ok (Instr.encode u.ch u.gain u.mode u.dr)) (decodeWord_encodeWord t)

theorem decodeReconfigure_eq_ok_iff {w : Word16} {dev : Byte} :
    decodeReconfigure w dev = .ok i ↔
      ∃ t : Fields, w = strobeWord (encodeWord t) ∧ i = .reconfigure dev t.ch t.gain t.mode t.dr := by
  constructor
  · intro h
    unfold decodeReconfigure at h
    split at h
    · next hw =>
      cases h
      exact ⟨decodeWord w, eq_strobeWord_of_fixedBits hw, rfl⟩
    · cases h
  · rintro ⟨t, rfl, rfl⟩
    rw [decodeReconfigure, if_pos (strobeWord_encodeWord_and_fixedMask t)]
    exact congrArg (fun u : Fields => Except.ok (Instr.reconfigure dev u.ch u.gain u.mode u.dr))
      ((decodeWord_strobeWord _).trans (decodeWord_encodeWord t))

theorem decodeRaw2v_eq_ok_iff {w : Word16} {g : Byte} :
    decodeRaw2v w g = .ok i ↔ ∃ gain : GainRange, g = gain.code.setWidth 8 ∧ i = .raw2v w gain := by
  simp only [← code3OfByte_eq_ok_iff, decodeRaw2v]
  cases code3OfByte g <;> simp [GainRange.eq_code_iff, eq_comm]

theorem decodeFsr_eq_ok_iff {g : Byte} :
    decodeFsr g = .ok i ↔ ∃ gain : GainRange, g = gain.code.setWidth 8 ∧ i = .fsr gain := by
  simp only [← code3OfByte_eq_ok_iff, decodeFsr]
  cases code3OfByte g <;> simp [GainRange.eq_code_iff, eq_comm]

theorem decodeSps_eq_ok_iff {d : Byte} :
    decodeSps d = .ok i ↔ ∃ dr : DataRate, d = dr.code.setWidth 8 ∧ i = .sps dr := by
  simp only [← code3OfByte_eq_ok_iff, decodeSps]
  cases code3OfByte d <;> simp [DataRate.eq_code_iff, eq_comm]

theorem decodeSampleRaw_eq_ok_iff {f dev : Byte} :
    decodeSampleRaw f dev = .ok i ↔ ∃ force, f = forceByte force ∧ i = .sampleRaw dev force := by
  simp only [← decodeForce_eq_ok_iff, decodeSampleRaw]
  cases decodeForce f <;> simp [eq_comm]

theorem decodeSampleVoltage_eq_ok_iff {f dev : Byte} :
    decodeSampleVoltage f dev = .ok i ↔ ∃ force, f = forceByte force ∧ i = .sampleVoltage dev force := by
  simp only [← decodeForce_eq_ok_iff, decodeSampleVoltage]
  cases decodeForce f <;> simp [eq_comm]

theorem decodeConstruct_eq_ok_iff {a c g m d bus dev : Byte} :
    decodeConstruct a c g m d bus dev = .ok i ↔
      ∃ t : Fields, c = t.ch.code.setWidth 8 ∧ g = t.gain.code.setWidth 8 ∧ m = t.mode.code.setWidth 8 ∧
        d = t.dr.code.setWidth 8 ∧ i = .construct dev bus a t.ch t.gain t.mode t.dr := by
  simp only [← code3OfByte_eq_ok_iff, ← code1OfByte_eq_ok_iff]
  constructor
  · intro h
    unfold decodeConstruct at h
    split at h
    · next ch gain mode dr hch hgain hmode hdr =>
      cases h
      exact ⟨⟨.ofCode ch, .ofCode gain, .ofCode mode, .ofCode dr⟩, by simp [hch, hgain, hmode, hdr]⟩
    all_goals cases h
  · rintro ⟨t, hch, hgain, hmode, hdr, rfl⟩
    simp [decodeConstruct, hch, hgain, hmode, hdr]

theorem decodeWait_eq_ok_iff {num den : BitVec 32} :
    decodeWait num den = .ok i ↔ den ≠ 0 ∧ i = .wait num den := by
  constructor
  · intro h
    unfold decodeWait at h
    split at h
    · cases h
    · next hden =>
      cases h
      exact ⟨hden, rfl⟩
  · rintro ⟨hden, rfl⟩
    exact if_neg hden

end Decoders

/-! ### The round trip -/

theorem encode_encode (t : Fields) :
    encode (.encode t.ch t.gain t.mode t.dr) = ⟨.unitEnc, wordBytes (encodeWord t)⟩ := rfl

theorem encode_reconfigure (dev : Byte) (t : Fields) :
    encode (.reconfigure dev t.ch t.gain t.mode t.dr) =
      ⟨.entryReconfigure, wordBytes (strobeWord (encodeWord t)) ++ [dev]⟩ := by
  rw [strobeWord, BitVec.or_comm]
  rfl

/-- Settles O53: each part of the decoder answers the operand whose bytes `encode` wrote. -/
theorem decodeOfEncodedRequest : Obligations.DecodeOfEncodedRequest := by
  intro i hi
  cases i with
  | encode ch gain mode dr =>
    exact (congrArg decodeEncode (joinBytes_hi_lo _)).trans
      (decodeEncode_eq_ok_iff.mpr ⟨⟨ch, gain, mode, dr⟩, rfl, rfl⟩)
  | decode w => exact congrArg (fun v => Except.ok (Instr.decode v)) (joinBytes_hi_lo w)
  | raw2v raw gain =>
    exact (congrArg (decodeRaw2v · _) (joinBytes_hi_lo raw)).trans (decodeRaw2v_eq_ok_iff.mpr ⟨gain, rfl, rfl⟩)
  | fsr gain => exact decodeFsr_eq_ok_iff.mpr ⟨gain, rfl, rfl⟩
  | sps dr => exact decodeSps_eq_ok_iff.mpr ⟨dr, rfl, rfl⟩
  | strobe w => exact congrArg (fun v => Except.ok (Instr.strobe v)) (joinBytes_hi_lo w)
  | construct dev bus a ch gain mode dr =>
    exact decodeConstruct_eq_ok_iff.mpr ⟨⟨ch, gain, mode, dr⟩, rfl, rfl, rfl, rfl, rfl⟩
  | writeConfig dev => rfl
  | sampleRaw dev force => exact decodeSampleRaw_eq_ok_iff.mpr ⟨force, rfl, rfl⟩
  | sampleVoltage dev force => exact decodeSampleVoltage_eq_ok_iff.mpr ⟨force, rfl, rfl⟩
  | reconfigure dev ch gain mode dr =>
    rw [encode_reconfigure dev ⟨ch, gain, mode, dr⟩]
    exact (congrArg (decodeReconfigure · dev) (joinBytes_hi_lo _)).trans
      (decodeReconfigure_eq_ok_iff.mpr ⟨⟨ch, gain, mode, dr⟩, rfl, rfl⟩)
  | readConfig dev => rfl
  | read16 bus a p => rfl
  | write16 bus a p v => exact congrArg (fun w => Except.ok (Instr.write16 bus a p w)) (joinBytes_hi_lo v)
  | wait num den =>
    have hden : den ≠ 0 := by simpa [Instr.wellFormed] using hi
    exact (congrArg₂ decodeWait (joinFour_fourBytes num) (joinFour_fourBytes den)).trans
      (decodeWait_eq_ok_iff.mpr ⟨hden, rfl⟩)

/-- Settles O54: each part of the decoder answers on no other bytes than those `encode` writes for its answer. -/
theorem encodeOfDecodedRequest : Obligations.EncodeOfDecodedRequest := by
  rintro ⟨sel, bytes⟩ i h
  simp only [decode] at h
  split at h
  · next b0 b1 => -- ENCODE
    obtain ⟨t, hw, rfl⟩ := decodeEncode_eq_ok_iff.mp h
    rw [encode_encode, ← hw, wordBytes_joinBytes]
    exact ⟨rfl, rfl⟩
  · next b0 b1 => -- DECODE
    cases h
    exact ⟨congrArg (Request.mk .unitDec) (wordBytes_joinBytes b0 b1), rfl⟩
  · next b0 b1 g => -- RAW2V
    obtain ⟨gain, rfl, rfl⟩ := decodeRaw2v_eq_ok_iff.mp h
    exact ⟨congrArg (fun w => Request.mk .unitScl (w ++ [_])) (wordBytes_joinBytes b0 b1), rfl⟩
  · next g => -- FSR
    obtain ⟨gain, rfl, rfl⟩ := decodeFsr_eq_ok_iff.mp h
    exact ⟨rfl, rfl⟩
  · next d => -- SPS
    obtain ⟨dr, rfl, rfl⟩ := decodeSps_eq_ok_iff.mp h
    exact ⟨rfl, rfl⟩
  · next b0 b1 => -- STROBE
    cases h
    exact ⟨congrArg (Request.mk .stepStrobe) (wordBytes_joinBytes b0 b1), rfl⟩
  · next a c g m d bus dev => -- CONSTRUCT
    obtain ⟨t, rfl, rfl, rfl, rfl, rfl⟩ := decodeConstruct_eq_ok_iff.mp h
    exact ⟨rfl, rfl⟩
  · next dev => -- WRITECONFIG
    cases h
    exact ⟨rfl, rfl⟩
  · next f dev => -- SAMPLERAW
    obtain ⟨force, rfl, rfl⟩ := decodeSampleRaw_eq_ok_iff.mp h
    exact ⟨rfl, rfl⟩
  · next f dev => -- SAMPLEVOLTAGE
    obtain ⟨force, rfl, rfl⟩ := decodeSampleVoltage_eq_ok_iff.mp h
    exact ⟨rfl, rfl⟩
  · next b0 b1 dev => -- RECONFIGURE
    obtain ⟨t, hw, rfl⟩ := decodeReconfigure_eq_ok_iff.mp h
    rw [encode_reconfigure, ← hw, wordBytes_joinBytes]
    exact ⟨rfl, rfl⟩
  · next dev => -- READCONFIG
    cases h
    exact ⟨rfl, rfl⟩
  · next a p bus => -- READ16
    cases h
    exact ⟨rfl, rfl⟩
  · next b0 b1 a p bus => -- WRITE16
    cases h
    exact ⟨congrArg (fun w => Request.mk .callWrite16 (w ++ [a, p, bus])) (wordBytes_joinBytes b0 b1), rfl⟩
  · next n3 n2 n1 n0 d3 d2 d1 d0 => -- WAIT
    obtain ⟨hden, rfl⟩ := decodeWait_eq_ok_iff.mp h
    exact ⟨congrArg₂ (fun n d => Request.mk .stepWait (n ++ d)) (fourBytes_joinFour n3 n2 n1 n0)
      (fourBytes_joinFour d3 d2 d1 d0), bne_iff_ne.mpr hden⟩
  · cases h

/-- Settles O55: fixed words, evaluated. -/
theorem tableWordsDecode : Obligations.TableWordsDecode := by
  unfold Obligations.TableWordsDecode
  decide

end Sys2Proof.Machine

/-! ## The encoder and the start strobe (40_encode.md)

ENCODE has DECODE as its left inverse, and on the words of its pattern as its right inverse: injectivity and the image
follow. Its bits, one by one and field by field, give the fixed bits, the sum and the difference of two words. -/

namespace Sys2Proof.Machine

/-! ### The bits of a packed word -/

/-- The number a word stands for, read off bit 15, the four fields and the two parts of the tail (30_encoding.md R50). -/
theorem word_toNat_eq_slices (w : Word16) : w.toNat =
    32768 * (w.getLsbD 15).toNat + 4096 * (w.extractLsb' 12 3).toNat + 512 * (w.extractLsb' 9 3).toNat
      + 256 * (w.extractLsb' 8 1).toNat + 32 * (w.extractLsb' 5 3).toNat + 4 * (w.extractLsb' 2 3).toNat
      + (w.extractLsb' 0 2).toNat := by
  have hw := w.isLt
  simp only [BitVec.extractLsb'_toNat, Nat.shiftRight_eq_div_pow, BitVec.getLsbD, Nat.toNat_testBit]
  omega

/-- Two packed words differ where their codes differ, field by field (40_encode.md R80). -/
theorem insertFields_xor_insertFields (ch ch' gain gain' : Code3) (mode mode' : Code1) (dr dr' : Code3) :
    insertFields ch gain mode dr ^^^ insertFields ch' gain' mode' dr' =
      ((ch ^^^ ch').setWidth 16 <<< 12) ||| ((gain ^^^ gain').setWidth 16 <<< 9)
        ||| ((mode ^^^ mode').setWidth 16 <<< 8) ||| ((dr ^^^ dr').setWidth 16 <<< 5) := by
  ext i hi
  simp only [BitVec.getElem_xor, insertFields_getElem, BitVec.getElem_or, BitVec.getElem_shiftLeft,
    BitVec.getElem_setWidth, BitVec.getLsbD_xor]
  interval_cases i <;> simp

theorem encodeWord_xor_encodeWord (t t' : Fields) : encodeWord t ^^^ encodeWord t' =
    ((t.ch.code ^^^ t'.ch.code).setWidth 16 <<< 12) ||| ((t.gain.code ^^^ t'.gain.code).setWidth 16 <<< 9)
      ||| ((t.mode.code ^^^ t'.mode.code).setWidth 16 <<< 8) ||| ((t.dr.code ^^^ t'.dr.code).setWidth 16 <<< 5) :=
  insertFields_xor_insertFields ..

/-- Bit 15 of what ENCODE returns is clear (40_encode.md R76). -/
@[simp] theorem encodeWord_getLsbD_15 (t : Fields) : (encodeWord t).getLsbD 15 = false :=
  insertFields_getLsbD t.ch.code t.gain.code t.mode.code t.dr.code 15

/-- The comparator tail of what ENCODE returns (40_encode.md R77). -/
theorem encodeWord_tail (t : Fields) :
    (encodeWord t).extractLsb' 2 3 = 0b000 ∧ (encodeWord t).extractLsb' 0 2 = 0b11 := by
  constructor <;> ext i hi <;> interval_cases i <;> simp [encodeWord, encUnit, insertFields_getElem]

/-- The four slices of what ENCODE returns are the codes of its operands (30_encoding.md R50). -/
theorem encodeWord_slices (t : Fields) :
    (encodeWord t).extractLsb' 12 3 = t.ch.code ∧ (encodeWord t).extractLsb' 9 3 = t.gain.code ∧
      (encodeWord t).extractLsb' 8 1 = t.mode.code ∧ (encodeWord t).extractLsb' 5 3 = t.dr.code := by
  simp [← extractCh_eq_extract, ← extractGain_eq_extract, ← extractMode_eq_extract, ← extractDr_eq_extract, encodeWord,
    encUnit]

/-- ENCODE is a sum with no carry between fields (40_encode.md R80). -/
theorem encodeWord_toNat (t : Fields) : (encodeWord t).toNat =
    4096 * t.ch.code.toNat + 512 * t.gain.code.toNat + 256 * t.mode.code.toNat + 32 * t.dr.code.toNat + 3 := by
  obtain ⟨hch, hgain, hmode, hdr⟩ := encodeWord_slices t
  obtain ⟨hhigh, hlow⟩ := encodeWord_tail t
  rw [word_toNat_eq_slices, encodeWord_getLsbD_15, hch, hgain, hmode, hdr, hhigh, hlow]
  simp

/-! ### Injectivity and the image -/

/-- DECODE is a left inverse of ENCODE (40_encode.md R79). -/
theorem encodeWord_injective : Function.Injective encodeWord :=
  Function.LeftInverse.injective decodeWord_encodeWord

/-- Gain codes of the same full-scale value stay distinct (40_encode.md R75, 90_conflicts.md C8). -/
theorem encodeWord_ne_of_gainCode_ne {c c' : Code3} (h : c ≠ c') (ch : ChannelSelector) (mode : OperatingMode)
    (dr : DataRate) : encodeWord ⟨ch, .ofCode c, mode, dr⟩ ≠ encodeWord ⟨ch, .ofCode c', mode, dr⟩ :=
  fun he => h (GainRange.ofCode_inj (congrArg Fields.gain (encodeWord_injective he)))

/-- Every bit pattern on the four ports is a legal tuple (40_encode.md R78). -/
theorem exists_fields_of_codes (ch gain : Code3) (mode : Code1) (dr : Code3) :
    ∃ t : Fields, t.ch.code = ch ∧ t.gain.code = gain ∧ t.mode.code = mode ∧ t.dr.code = dr :=
  ⟨⟨.ofCode ch, .ofCode gain, .ofCode mode, .ofCode dr⟩, by simp⟩

theorem exists_encodeWord_eq_iff (w : Word16) : (∃ t, encodeWord t = w) ↔ w &&& fixedMask = lowFixed := by
  constructor
  · rintro ⟨t, rfl⟩
    exact encodeWord_and_fixedMask t
  · intro h
    exact ⟨decodeWord w, (eq_encodeWord_of_fixedBits h).symm⟩

theorem exists_strobeWord_encodeWord_eq_iff (w : Word16) :
    (∃ t, strobeWord (encodeWord t) = w) ↔ w &&& fixedMask = strobeBit ||| lowFixed := by
  constructor
  · rintro ⟨t, rfl⟩
    exact strobeWord_encodeWord_and_fixedMask t
  · intro h
    exact ⟨decodeWord w, (eq_strobeWord_of_fixedBits h).symm⟩

/-! ### The strobe -/

theorem exec_strobe (w : Word16) (s : State) : exec (.strobe w) s = .next (s.returns (.word (strobeWord w))) := rfl

theorem strobeWord_getLsbD_15 (w : Word16) : (strobeWord w).getLsbD 15 = true := by
  simp [strobeWord, strobeBit]

theorem strobeWord_getLsbD_of_lt (w : Word16) {k : Nat} (hk : k < 15) : (strobeWord w).getLsbD k = w.getLsbD k := by
  have hbit : strobeBit.getLsbD k = false := by interval_cases k <;> rfl
  rw [strobeWord, BitVec.getLsbD_or, hbit, Bool.or_false]

@[simp] theorem strobeWord_strobeWord (w : Word16) : strobeWord (strobeWord w) = strobeWord w := by
  rw [strobeWord, strobeWord, BitVec.or_assoc, BitVec.or_self]

/-- On a word without the strobe bit STROBE is an addition (40_encode.md R81). -/
theorem strobeWord_toNat {w : Word16} (h : w &&& strobeBit = 0#16) : (strobeWord w).toNat = w.toNat + 32768 := by
  rw [strobeWord, ← BitVec.add_eq_or_of_and_eq_zero w strobeBit h, BitVec.toNat_add_of_and_eq_zero h]
  rfl

/-- The strobe bit is one of the bits that ENCODE fixes, and it fixes it to 0 (30_encoding.md R64). -/
theorem encodeWord_and_strobeBit (t : Fields) : encodeWord t &&& strobeBit = 0#16 := by
  have hmask : strobeBit = fixedMask &&& strobeBit := by decide
  have hzero : lowFixed &&& strobeBit = 0#16 := by decide
  rw [hmask, ← BitVec.and_assoc, encodeWord_and_fixedMask, hzero]

/-! ### What ENCODE and STROBE promise -/

/-- Settles O1: the word is `encodeWord` of the four operands, and injectivity tells the gain codes apart. -/
theorem encodePacksFieldsAndNeverFails : Obligations.EncodePacksFieldsAndNeverFails := by
  refine ⟨fun ch gain mode dr s => ?_, exists_fields_of_codes, by decide, by decide, fun ch mode dr => ⟨?_, ?_, ?_⟩⟩
  · have hpacked := exec_encode ch gain mode dr s
    exact ⟨encodeWord ⟨ch, gain, mode, dr⟩, hpacked, rfl, encodeWord_getLsbD_15 _, encodeWord_tail _⟩
  all_goals exact encodeWord_ne_of_gainCode_ne (by decide) ch mode dr

/-- Settles O2: in the difference of two words the operands they share cancel. -/
theorem encodeFieldsDoNotInteract : Obligations.EncodeFieldsDoNotInteract := by
  intro ch ch' gain gain' mode mode' dr dr'
  refine ⟨encodeWord_toNat _, ?_, ?_, ?_, ?_⟩ <;> simp [encodeWord_xor_encodeWord]

/-- Settles O3: DECODE is the left inverse of ENCODE, and on the words of the pattern the right inverse. -/
theorem encodeImageIsTheFixedPattern : Obligations.EncodeImageIsTheFixedPattern :=
  ⟨fun _ _ h => encodeWord_injective h, exists_encodeWord_eq_iff, exists_strobeWord_encodeWord_eq_iff⟩

/-- Settles O4: the strobe is an `or` with bit 15, which ENCODE leaves clear. -/
theorem strobeSetsBit15Only : Obligations.StrobeSetsBit15Only := by
  refine ⟨fun w s => ?_, fun t => ?_⟩
  · refine ⟨strobeWord w, exec_strobe w s, rfl, strobeWord_getLsbD_15 w, fun k => strobeWord_getLsbD_of_lt w, ?_⟩
    rw [exec_strobe, strobeWord_strobeWord, State.returns]
  · have hadd := strobeWord_toNat (encodeWord_and_strobeBit t)
    have hne : strobeWord (encodeWord t) ≠ encodeWord t := fun he => by
      rw [he] at hadd
      omega
    exact ⟨hne, hadd⟩

end Sys2Proof.Machine

/-! ## The decoder (41_decode.md)

DECODE sees bits 14:5 and nothing else: two words decode alike exactly if they agree under the union of the masks. With
DECODE as the left inverse of ENCODE, this says which words decode to a given tuple. -/

namespace Sys2Proof.Machine

/-! ### The fields of a word -/

/-- The codes of the fields DECODE returns, by mask and shift (41_decode.md R85). -/
theorem decodeWord_codes_eq_extract (w : Word16) :
    (decodeWord w).ch.code = extractCh w ∧ (decodeWord w).gain.code = extractGain w ∧
      (decodeWord w).mode.code = extractMode w ∧ (decodeWord w).dr.code = extractDr w := by
  simpa only [decUnit, Prod.mk.injEq] using decodeWord_codes w

/-- The codes of the fields DECODE returns, as slices of the word (30_encoding.md R50). -/
theorem decodeWord_codes_eq_slices (w : Word16) :
    (decodeWord w).ch.code = w.extractLsb' 12 3 ∧ (decodeWord w).gain.code = w.extractLsb' 9 3 ∧
      (decodeWord w).mode.code = w.extractLsb' 8 1 ∧ (decodeWord w).dr.code = w.extractLsb' 5 3 := by
  rw [← extractCh_eq_extract, ← extractGain_eq_extract, ← extractMode_eq_extract, ← extractDr_eq_extract]
  exact decodeWord_codes_eq_extract w

/-! ### The bits that DECODE examines -/

/-- The union of the four masks is bits 14:5 (41_decode.md R86). -/
theorem fieldMask_eq : fieldMask = 0x7FE0 := by decide

/-- Re-encoding leaves the bits under the masks as they are: the fixed tail lies outside (41_decode.md R89). -/
theorem encodeWord_decodeWord_and_fieldMask (w : Word16) :
    encodeWord (decodeWord w) &&& fieldMask = w &&& fieldMask := by
  have htail : fieldMask &&& lowFixed = 0#16 := by decide
  rw [encodeWord_decodeWord, BitVec.and_comm, BitVec.and_or_distrib_left, htail, BitVec.or_zero, BitVec.and_comm,
    BitVec.and_assoc, BitVec.and_self]

/-- Two words decode alike exactly if they agree under the masks (41_decode.md R86, R93). -/
theorem decodeWord_eq_decodeWord_iff (w w' : Word16) :
    decodeWord w = decodeWord w' ↔ w &&& fieldMask = w' &&& fieldMask := by
  constructor
  · intro h
    rw [← encodeWord_decodeWord_and_fieldMask w, h, encodeWord_decodeWord_and_fieldMask]
  · exact decodeWord_congr

/-- A word decodes to a tuple exactly if it agrees with the tuple's own word under the masks (41_decode.md R93). -/
theorem decodeWord_eq_iff (t : Fields) (w : Word16) :
    decodeWord w = t ↔ w &&& fieldMask = encodeWord t &&& fieldMask := by
  rw [← decodeWord_eq_decodeWord_iff, decodeWord_encodeWord]

/-- The words that re-encoding gives back are those of ENCODE's pattern (41_decode.md R89). -/
theorem encodeWord_decodeWord_eq_self_iff (w : Word16) :
    encodeWord (decodeWord w) = w ↔ w &&& fixedMask = lowFixed := by
  constructor
  · intro h
    rw [← h, encodeWord_and_fixedMask]
  · intro h
    exact (eq_encodeWord_of_fixedBits h).symm

/-! ### What DECODE promises -/

/-- Settles O5: the codes of `decodeWord` by mask and shift, and as slices. -/
theorem decodeExtractsFourFields : Obligations.DecodeExtractsFourFields := by
  intro w s
  obtain ⟨hch, hgain, hmode, hdr⟩ := decodeWord_codes_eq_extract w
  exact ⟨decodeWord w, exec_decode w s, hch, hgain, hmode, hdr, decodeWord_codes_eq_slices w⟩

/-- Settles O6: each of the four masks lies inside their union. -/
theorem decodeIgnoresStrobeAndTail : Obligations.DecodeIgnoresStrobeAndTail := by
  refine ⟨fun w w' h => ?_, fieldMask_eq⟩
  rw [← fieldMask_eq] at h
  exact decodeWord_congr h

/-- Settles O7: ENCODE returns `encodeWord` of its operands, of which DECODE is the left inverse. -/
theorem decodeOfEncodeRoundTrips : Obligations.DecodeOfEncodeRoundTrips := by
  intro ch gain mode dr s
  refine ⟨encodeWord ⟨ch, gain, mode, dr⟩, exec_encode ch gain mode dr s, ?_⟩
  rw [exec_decode, decodeWord_encodeWord, State.returns]

/-- Settles O8: re-encoding keeps what the masks show and writes the fixed tail; the strobe is outside the masks. -/
theorem reencodingKeepsFieldsOnly : Obligations.ReencodingKeepsFieldsOnly := by
  unfold Obligations.ReencodingKeepsFieldsOnly
  rw [← fieldMask_eq]
  refine ⟨encodeWord_decodeWord, encodeWord_decodeWord_eq_self_iff, fun t => ?_, decodeWord_eq_iff⟩
  rw [decodeWord_strobeWord, decodeWord_encodeWord]

end Sys2Proof.Machine

/-! ## The scaler and the two lookups (42_scale.md)

Every full-scale value is K counts of 256, so the shift of RAW2V loses nothing and its result is the signed sample
times K. Exactness in volts, the ranges, the asymmetry at full scale, negation and monotony all follow from that one
product. -/

namespace Sys2Proof.Machine

/-! ### The signed reading of a sample -/

theorem s16_eq_toInt (raw : Word16) : s16 raw = raw.toInt := by
  rw [BitVec.toInt_eq_msb_cond, BitVec.msb_eq_getLsbD_last]
  rfl

/-- The top bit weighs -2^15 where an unsigned reading gives it 2^15 (42_scale.md R95). -/
theorem s16_eq_sub_topBit (raw : Word16) : s16 raw = (raw.toNat : Int) - 65536 * (raw.getLsbD 15).toNat := by
  rw [s16, signBit]
  cases raw.getLsbD 15 <;> simp

theorem sample_bounds (raw : Word16) : -32768 ≤ raw.toInt ∧ raw.toInt ≤ 32767 := by
  have hlow := raw.le_toInt
  have hhigh := raw.toInt_lt
  omega

/-! ### K, the results per count of the sample (42_scale.md R104) -/

/-- `K(gain) = FSR(gain) / 256`. -/
def scaleK (gain : GainRange) : Int := ((fsrUnit gain.code).toNat : Int) / 256

@[simp] theorem scaleK_fsr6144 : scaleK .fsr6144 = 24 := rfl
@[simp] theorem scaleK_fsr4096 : scaleK .fsr4096 = 16 := rfl
@[simp] theorem scaleK_fsr2048 : scaleK .fsr2048 = 8 := rfl
@[simp] theorem scaleK_fsr1024 : scaleK .fsr1024 = 4 := rfl
@[simp] theorem scaleK_fsr512 : scaleK .fsr512 = 2 := rfl
@[simp] theorem scaleK_fsr256 : scaleK .fsr256 = 1 := rfl
@[simp] theorem scaleK_fsr256Alias6 : scaleK .fsr256Alias6 = 1 := rfl
@[simp] theorem scaleK_fsr256Alias7 : scaleK .fsr256Alias7 = 1 := rfl

theorem fsrUnit_toNat_eq_scaleK_mul (gain : GainRange) : ((fsrUnit gain.code).toNat : Int) = scaleK gain * 256 := by
  obtain ⟨k, -, -, hk⟩ := fsrUnit_eq_mul gain
  rw [scaleK, hk]
  omega

theorem scaleK_bounds (gain : GainRange) : 1 ≤ scaleK gain ∧ scaleK gain ≤ 24 := by
  obtain ⟨k, hlow, hhigh, hk⟩ := fsrUnit_eq_mul gain
  rw [scaleK, hk]
  omega

theorem fsrVolts_eq_scaleK_mul (gain : GainRange) : fsrVolts gain = scaleK gain * 0.256 := by
  have hfsr : ((fsrUnit gain.code).toNat : Rat) = scaleK gain * 256 := by
    exact_mod_cast fsrUnit_toNat_eq_scaleK_mul gain
  rw [fsrVolts, hfsr]
  ring

theorem fsrVolts_pos (gain : GainRange) : 0 < fsrVolts gain := by
  have hK : (1 : Rat) ≤ scaleK gain := by exact_mod_cast (scaleK_bounds gain).1
  rw [fsrVolts_eq_scaleK_mul]
  linarith

/-! ### The product and the shift -/

/-- The low eight bits of the product are zero (42_scale.md R103). -/
theorem product_eq_mul_256 (raw : Word16) (gain : GainRange) :
    product raw gain.code = raw.toInt * scaleK gain * 256 := by
  rw [product, s16_eq_toInt, fsrUnit_toNat_eq_scaleK_mul, mul_assoc]

/-- Every result lies between those of the two ends of the scale at gain 0 (42_scale.md R102). -/
theorem sample_mul_scaleK_bounds (raw : Word16) (gain : GainRange) :
    -786432 ≤ raw.toInt * scaleK gain ∧ raw.toInt * scaleK gain ≤ 786408 := by
  obtain ⟨hraw, hraw'⟩ := sample_bounds raw
  obtain ⟨hK, hK'⟩ := scaleK_bounds gain
  constructor <;> nlinarith

/-- RAW2V is the signed sample times K (42_scale.md R104): the shift undoes the factor 256, and 21 bits are enough. -/
theorem raw2vOf_toInt (raw : Word16) (gain : GainRange) : (raw2vOf raw gain).toInt = raw.toInt * scaleK gain := by
  obtain ⟨hlow, hhigh⟩ := sample_mul_scaleK_bounds raw gain
  have hshift : product raw gain.code >>> scaleShift = raw.toInt * scaleK gain := by
    rw [product_eq_mul_256, Int.shiftRight_eq_div_pow]
    exact Int.mul_ediv_cancel _ (by decide)
  rw [raw2vOf, sclUnit, hshift]
  exact BitVec.toInt_ofInt_eq_self (by decide) (by omega) (by omega)

/-- Gains of one full-scale value scale alike. -/
theorem raw2vOf_congr {gain gain' : GainRange} (h : fsrUnit gain.code = fsrUnit gain'.code) (raw : Word16) :
    raw2vOf raw gain = raw2vOf raw gain' := by
  simp only [raw2vOf, sclUnit, product, h]

/-- At K = 1 the result is the sample itself in 21 bits (42_scale.md R104). -/
theorem raw2vOf_fsr256 (raw : Word16) : raw2vOf raw .fsr256 = raw.signExtend 21 := by
  apply BitVec.eq_of_toInt_eq
  rw [raw2vOf_toInt, scaleK_fsr256, mul_one, BitVec.toInt_signExtend_of_le (by decide)]

/-- 0x8000 is its own negation; every other word negates exactly (42_scale.md R106). -/
theorem raw2vOf_neg {raw : Word16} (h : raw ≠ 0x8000) (gain : GainRange) :
    (raw2vOf (-raw) gain).toInt = -(raw2vOf raw gain).toInt := by
  rw [raw2vOf_toInt, raw2vOf_toInt, BitVec.toInt_neg_of_ne_intMin h, neg_mul]

theorem raw2vOf_lt_raw2vOf (gain : GainRange) {raw raw' : Word16} (h : raw.toInt < raw'.toInt) :
    (raw2vOf raw gain).toInt < (raw2vOf raw' gain).toInt := by
  obtain ⟨hK, -⟩ := scaleK_bounds gain
  rw [raw2vOf_toInt, raw2vOf_toInt]
  exact Int.mul_lt_mul_of_pos_right h (by omega)

theorem raw2vOf_minusFullScale_lt_zero (gain : GainRange) : (raw2vOf 0x8000 gain).toInt < 0 := by
  obtain ⟨hK, -⟩ := scaleK_bounds gain
  have hraw : (0x8000 : Word16).toInt = -32768 := rfl
  rw [raw2vOf_toInt, hraw]
  omega

theorem raw2vOf_zero (gain : GainRange) : raw2vOf 0 gain = 0 := by
  apply BitVec.eq_of_toInt_eq
  have hzero : (0 : Word16).toInt = 0 := rfl
  rw [raw2vOf_toInt, hzero, zero_mul]
  rfl

/-! ### The volts of a result -/

/-- The fixed-point result stands for the sample's share of full scale, without an error term (42_scale.md R101). -/
theorem voltsOf_raw2vOf (raw : Word16) (gain : GainRange) :
    voltsOf (raw2vOf raw gain).toInt = raw.toInt / 32768 * fsrVolts gain := by
  rw [voltsOf, raw2vOf_toInt, fsrVolts_eq_scaleK_mul]
  push_cast
  ring

theorem voltsOf_raw2vOf_lt (raw : Word16) (gain : GainRange) : voltsOf (raw2vOf raw gain).toInt < fsrVolts gain := by
  have hraw : (raw.toInt : Rat) ≤ 32767 := by exact_mod_cast (sample_bounds raw).2
  have hshare : (raw.toInt : Rat) / 32768 < 1 := by linarith
  rw [voltsOf_raw2vOf]
  exact mul_lt_of_lt_one_left (fsrVolts_pos gain) hshare

/-! ### The lookup of samples per second -/

theorem spsUnit_lt_spsUnit {c c' : Code3} : c < c' → spsUnit c < spsUnit c' := by
  revert c c'
  decide

theorem spsUnit_injective : Function.Injective spsUnit := by
  have not_lt_of_eq {c c' : Code3} (h : spsUnit c = spsUnit c') : ¬ c < c' := fun hlt =>
    BitVec.lt_irrefl _ (h ▸ spsUnit_lt_spsUnit hlt)
  intro c c' h
  exact BitVec.le_antisymm (BitVec.not_lt.mp (not_lt_of_eq h.symm)) (BitVec.not_lt.mp (not_lt_of_eq h))

theorem dataRate_code_injective : Function.Injective DataRate.code :=
  Function.LeftInverse.injective DataRate.ofCode_code

/-! ### What FSR, SPS and RAW2V promise -/

/-- Settles O9: FSR hands over the table's row. -/
theorem fsrReturnsFullScaleMillivolts : Obligations.FsrReturnsFullScaleMillivolts := by
  intro gain s
  rw [exec_fsr]
  cases gain <;> exact ⟨rfl, rfl⟩

/-- Settles O10: SPS hands over the table's row; a strictly increasing table is injective. -/
theorem spsReturnsSamplesPerSecond : Obligations.SpsReturnsSamplesPerSecond := by
  refine ⟨fun dr s => ?_, fun d d' h => ?_, fun d d' => spsUnit_lt_spsUnit⟩
  · rw [exec_sps]
    cases dr <;> rfl
  · exact dataRate_code_injective (spsUnit_injective h)

/-- Settles O11: `s16` is the signed value of the word; the four corner values are evaluated. -/
theorem signedReadingIsTwosComplement : Obligations.SignedReadingIsTwosComplement := by
  refine ⟨fun raw => ⟨rfl, s16_eq_sub_topBit raw, s16_eq_toInt raw, ?_⟩, by decide⟩
  rw [s16_eq_toInt]
  exact sample_bounds raw

/-- Settles O12: the product is the result times 256. -/
theorem raw2vIsTheExactScaledProduct : Obligations.Raw2vIsTheExactScaledProduct := by
  intro raw gain s
  obtain ⟨hlow, hhigh⟩ := sample_mul_scaleK_bounds raw gain
  refine ⟨raw2vOf raw gain, exec_raw2v raw gain s, ?_⟩
  rw [raw2vOf_toInt, fsrUnit_toNat_eq_scaleK_mul, product_eq_mul_256, ← mul_assoc]
  omega

/-- Settles O13: the exact share of full scale, with the table's row in volts. -/
theorem voltageIsExact : Obligations.VoltageIsExact := by
  intro raw gain
  have hvolts := voltsOf_raw2vOf raw gain
  refine ⟨?_, by rw [hvolts, voltage, s16_eq_toInt]⟩
  rw [voltsOf, fsrVolts_eq_scaleK_mul] at hvolts
  rw [hvolts]
  cases gain <;> norm_num

/-- Settles O14: each clause is a property of the product by K, which is positive. -/
theorem raw2vIsScaledByK : Obligations.Raw2vIsScaledByK := by
  refine ⟨fun raw gain => ?_, fun raw => ⟨raw2vOf_fsr256 raw, raw2vOf_congr rfl raw, raw2vOf_congr rfl raw⟩,
    fun raw gain h => raw2vOf_neg h gain, fun gain => ?_, fun raw raw' gain => raw2vOf_lt_raw2vOf gain, raw2vOf_zero⟩
  · rw [raw2vOf_toInt]
    cases gain <;> rfl
  · have hself : (-0x8000 : Word16) = 0x8000 := rfl
    rw [hself]
    exact ⟨raw2vOf_minusFullScale_lt_zero gain, Int.neg_pos_of_neg (raw2vOf_minusFullScale_lt_zero gain)⟩

/-- Settles O15: the signed sample runs from -32768 to 32767, in units of full scale over 32768. -/
theorem fullScaleIsAsymmetric : Obligations.FullScaleIsAsymmetric := by
  have hmin : (0x8000 : Word16).toInt = -32768 := rfl
  have hmax : (0x7FFF : Word16).toInt = 32767 := rfl
  intro gain
  refine ⟨?_, ?_, fun raw => voltsOf_raw2vOf_lt raw gain⟩
  · rw [voltsOf_raw2vOf, hmin]
    push_cast
    ring
  · rw [voltsOf_raw2vOf, hmax]
    push_cast
    ring

end Sys2Proof.Machine

/-! ## The controller (43_controller.md)

WRITECONFIG, SAMPLERAW and READCONFIG are one equation each: the state after the write is `State.afterConfig`, and a
sample is that write, a wait and the READ16 that the caller could have asked for. The rules over all operations follow
from `State.Did`, what an operation did on the transports, which has one rule per way of composing operations. -/

namespace Sys2Proof.Machine

/-! ### CONSTRUCT and WAIT -/

/-- Settles O27: the one update of CONSTRUCT is the entry of its name; a refused address comes before it. -/
theorem constructMakesAControllerOrRefusesTheAddress : Obligations.ConstructMakesAControllerOrRefusesTheAddress := by
  intro dev bus a ch gain mode dr s
  rw [← validAddress_iff]
  refine ⟨fun hv => ?_, exec_construct_invalid⟩
  refine ⟨_, exec_construct_valid hv, ?_, fun other ho => ?_, rfl, rfl⟩
  · rw [State.controllerOf_returns, State.controllerOf_setController_same]
  · rw [State.controllerOf_returns, State.controllerOf_setController_other _ _ ho]

/-- Settles O34: WAIT is its event and its return. -/
theorem waitChangesNoHardwareState : Obligations.WaitChangesNoHardwareState := by
  intro num den s
  rfl

/-! ### WRITECONFIG -/

/-- The state after a WRITECONFIG on the controller `c`, successful or not: one write, and on success the ghost flag. -/
def State.afterConfig (s : State) (dev : Byte) (c : Controller) : State :=
  if s.draw.fails then s.afterWrite c.bus c.addr c.word
  else (s.afterWrite c.bus c.addr c.word).setController dev { c with configured := true }

section AfterConfig

variable {s : State} {dev : Byte} {c : Controller}

@[simp] theorem State.afterConfig_bus : (s.afterConfig dev c).bus =
    .write c.bus c.addr ptrConfig (hiByte c.word) (loByte c.word) (!s.draw.fails) :: s.bus := by
  unfold State.afterConfig; split <;> simp
@[simp] theorem State.afterConfig_requests : (s.afterConfig dev c).requests = s.requests := by
  unfold State.afterConfig; split <;> simp
@[simp] theorem State.afterConfig_calls : (s.afterConfig dev c).calls = s.calls + 1 := by
  unfold State.afterConfig; split <;> simp
@[simp] theorem State.afterConfig_stub : (s.afterConfig dev c).stub = s.stub.tail := by
  unfold State.afterConfig; split <;> simp

theorem State.afterConfig_taken : (s.afterConfig dev c).taken =
    if s.draw.fails && !s.draw.landed then s.taken else (s.calls + 1) :: s.taken := by
  unfold State.afterConfig
  cases hf : s.draw.fails <;> cases hl : s.draw.landed <;> simp [Draw.takesWrite, hf, hl]

theorem State.controllerOf_afterConfig (hc : s.controllerOf dev = some c) : (s.afterConfig dev c).controllerOf dev =
    some { c with configured := c.configured || !s.draw.fails } := by
  unfold State.afterConfig
  cases s.draw.fails
  · simp
  · simp [hc]

theorem State.afterConfig_othersKept : OthersKept dev s (s.afterConfig dev c) := by
  intro other ho
  unfold State.afterConfig
  split
  · rw [State.controllerOf_afterWrite]
  · rw [State.controllerOf_setController_other _ _ ho, State.controllerOf_afterWrite]

theorem State.afterConfig_memoryKeptOutside : MemoryKeptOutside c.bus c.addr s (s.afterConfig dev c) := by
  intro key h0 h1
  unfold State.afterConfig
  split <;> exact s.afterWrite_memoryKeptOutside c.bus c.addr c.word key h0 h1

theorem State.afterConfig_triggersKeptOutside : TriggersKeptOutside c.bus c.addr s (s.afterConfig dev c) := by
  intro b a h
  unfold State.afterConfig
  split <;> exact s.afterWrite_triggersKeptOutside c.bus c.addr c.word b a h

/-- What follows the WRITECONFIG and touches neither controllers nor devices nor the caller's list keeps its frame. -/
theorem State.afterConfig_frame {t : State} (hc : s.controllerOf dev = some c)
    (hcs : t.controllers = (s.afterConfig dev c).controllers) (hmem : t.mem = (s.afterConfig dev c).mem)
    (htriggers : t.triggers = (s.afterConfig dev c).triggers)
    (hrequests : t.requests = (s.afterConfig dev c).requests) :
    t.controllerOf dev = some { c with configured := c.configured || !s.draw.fails } ∧ OthersKept dev s t ∧
      MemoryKeptOutside c.bus c.addr s t ∧ TriggersKeptOutside c.bus c.addr s t ∧ t.requests = s.requests := by
  refine ⟨(State.controllerOf_congr hcs dev).trans (State.controllerOf_afterConfig hc), fun other ho => ?_,
    fun key h0 h1 => ?_, fun b a h => ?_, hrequests.trans State.afterConfig_requests⟩
  · exact (State.controllerOf_congr hcs other).trans (State.afterConfig_othersKept other ho)
  · exact (State.readByte_congr hmem key).trans (State.afterConfig_memoryKeptOutside key h0 h1)
  · exact (State.triggerCount_congr htriggers b a).trans (State.afterConfig_triggersKeptOutside b a h)

theorem State.writeConfigCall_afterConfig (hc : s.controllerOf dev = some c) (hv : validAddress c.addr = true) :
    s.writeConfigCall dev =
      .next (s.afterConfig dev c, if s.draw.fails then .error .deviceUnreachable else .ok ()) := by
  have hkept : (s.afterWrite c.bus c.addr c.word).controllerOf dev = some c := by simp [hc]
  have hcall : s.writeConfigCall dev = (s.write16Call c.bus c.addr ptrConfig c.word).andThen fun _ s' =>
      .next (s'.markConfigured dev, .ok ()) := State.withController_some _ hc
  rw [hcall, State.write16Call_config s c.bus c.word hv]
  cases hf : s.draw.fails <;> simp [State.afterConfig, State.markConfigured_eq hkept, hf]

theorem exec_writeConfig_afterConfig (hc : s.controllerOf dev = some c) (hv : validAddress c.addr = true) :
    exec (.writeConfig dev) s = .next { s.afterConfig dev c with
      result := some (if s.draw.fails then .err .deviceUnreachable else .ok .unit) } := by
  change (s.writeConfigCall dev).finish _ = _
  rw [State.writeConfigCall_afterConfig hc hv]
  cases s.draw.fails <;> rfl

end AfterConfig

/-- Settles O29: the word of the one write is the strobed encoding of the shadow registers. -/
theorem writeConfigSendsTheStrobedConfiguration : Obligations.WriteConfigSendsTheStrobedConfiguration := by
  intro dev c s hc hv
  refine ⟨_, c.word, exec_writeConfig_afterConfig hc hv, rfl, ?_, rfl, State.controllerOf_afterConfig hc,
    State.afterConfig_othersKept, State.afterConfig_memoryKeptOutside, State.afterConfig_triggersKeptOutside,
    State.afterConfig_requests, State.afterConfig_calls, State.afterConfig_stub, State.afterConfig_taken⟩
  rw [← hiByte_eq_extract, ← loByte_eq_extract]
  exact State.afterConfig_bus

/-! ### RECONFIGURE and the mode -/

/-- Settles O32: a WRITECONFIG from the state with the new values stored, which keeps them as it keeps any. -/
theorem reconfigureStoresThenWrites : Obligations.ReconfigureStoresThenWrites := by
  intro dev ch gain mode dr c s hc hv
  have hnew := s.controllerOf_setController_same dev { c with ch := ch, gain := gain, mode := mode, dr := dr }
  obtain ⟨t, w, ht, hw, hbus, hresult, hflag, hothers, hmem, htriggers, hrequests, -⟩ :=
    writeConfigSendsTheStrobedConfiguration dev _ _ hnew hv
  refine ⟨t, w, (execReconfigure_eq ch gain mode dr hc).trans ht, hw, ?_, hresult, hflag, fun other ho => ?_, hmem,
    htriggers, hrequests⟩
  · rw [hiByte_eq_extract, loByte_eq_extract]
    exact hbus
  · exact (hothers other ho).trans (State.controllerOf_setController_other _ _ ho)

/-- The mode is one of the shadow registers. -/
theorem mode_of_shadow {x y : Option Controller} (h : x.map Controller.shadow = y.map Controller.shadow) :
    x.map Controller.mode = y.map Controller.mode := by
  have hmode : Controller.mode = (fun r => r.2.2.2.1) ∘ Controller.shadow := rfl
  rw [hmode, ← Option.map_map, ← Option.map_map, h]

/-- An operation on a controller that answers had one to run on. -/
theorem exists_controller_of_target {i : Instr} {dev : Byte} {s t : State} (hi : i.target = some dev)
    (h : exec i s = .next t) : ∃ c, s.controllerOf dev = some c := by
  rcases hc : s.controllerOf dev with _ | c
  · rw [noOperationWithoutAController i dev s hi hc] at h
    cases h
  · exact ⟨c, rfl⟩

/-- Settles O40: CONSTRUCT and RECONFIGURE store the operand, and what follows in them, like every other operation,
writes no shadow register. -/
theorem modeIsSetByConstructAndReconfigure : Obligations.ModeIsSetByConstructAndReconfigure := by
  refine ⟨fun dev bus a ch gain mode dr s t h hv => ?_, fun dev ch gain mode dr s t h => ?_, fun i s t dev h hi =>
    mode_of_shadow (onlyConstructAndReconfigureWriteShadows i s t dev h hi)⟩
  · rw [exec_construct_valid hv] at h
    cases h
    rw [State.controllerOf_returns, State.controllerOf_setController_same, Option.map_some]
  · obtain ⟨c, hc⟩ := exists_controller_of_target rfl h
    have hwrite := (execReconfigure_eq ch gain mode dr hc).symm.trans h
    rw [mode_of_shadow (onlyConstructAndReconfigureWriteShadows (.writeConfig dev) _ t dev hwrite nofun),
      State.controllerOf_setController_same, Option.map_some]

/-! ### READCONFIG -/

theorem exec_readConfig_failed {s : State} {dev : Byte} {c : Controller} (hc : s.controllerOf dev = some c)
    (hv : validAddress c.addr = true) (hf : s.draw.fails = true) :
    exec (.readConfig dev) s =
      .next ((s.spend.log (.readFailed c.bus c.addr ptrConfig)).raises .deviceUnreachable) := by
  simp [exec, execReadConfig, State.readConfigCall_eq hc, State.read16Call_eq s (readRefusal_config hv), hf]

/-- Settles O33: the word read shows the bits of the register that DECODE looks at. -/
theorem readConfigDecodesTheRegister : Obligations.ReadConfigDecodesTheRegister := by
  intro dev c s hc hv
  cases hf : s.draw.fails with
  | true =>
    exact ⟨_, exec_readConfig_failed hc hv hf, fun _ => ⟨rfl, rfl⟩, nofun, fun _ => rfl, fun _ => rfl,
      fun _ _ => rfl, rfl, rfl, rfl, rfl⟩
  | false =>
    have hword := decodeWord_congr (s.delivered_config_and_fieldMask c.bus c.addr s.draw)
    refine ⟨_, exec_readConfig_ok hc hv hf, nofun, fun _ => ⟨_, _, rfl, ?_, hword⟩, fun _ => rfl, fun _ => rfl,
      fun _ _ => rfl, rfl, rfl, rfl, rfl⟩
    rw [hword, State.returns_result]

/-! ### SAMPLERAW -/

section SampleRaw

variable {s : State} {dev : Byte} {c : Controller}

/-- An unforced sample is a READ16 of the conversion register (43_controller.md R115). -/
theorem exec_sampleRaw_unforced (hc : s.controllerOf dev = some c) :
    exec (.sampleRaw dev false) s = exec (.read16 c.bus c.addr ptrConversion) s :=
  congrArg (Reply.finish · Value.word) (State.sampleRawCall_eq false hc)

/-- A forced sample whose write fails ends there, as WRITECONFIG does (D28). -/
theorem exec_sampleRaw_writeFailed (hc : s.controllerOf dev = some c) (hv : validAddress c.addr = true)
    (hf : s.draw.fails = true) : exec (.sampleRaw dev true) s = exec (.writeConfig dev) s := by
  change (s.sampleRawCall dev true).finish _ = (s.writeConfigCall dev).finish _
  rw [State.sampleRawCall_eq true hc, State.writeConfigCall_afterConfig hc hv, hf]
  rfl

/-- A forced sample whose write succeeds waits and is then a READ16 (43_controller.md R115). -/
theorem exec_sampleRaw_written (hc : s.controllerOf dev = some c) (hv : validAddress c.addr = true)
    (hf : s.draw.fails = false) : exec (.sampleRaw dev true) s =
      exec (.read16 c.bus c.addr ptrConversion)
        ((s.afterConfig dev c).waits (minWait c.dr + (Config.waitMargin : Rat))) := by
  change (s.sampleRawCall dev true).finish _ = _
  rw [State.sampleRawCall_eq true hc, State.writeConfigCall_afterConfig hc hv, hf]
  rfl

end SampleRaw

/-- A READ16 of the conversion register: its event and its result, by the draw; all else but the count of calls is
kept. -/
theorem exec_read16_conversion {a : Byte} (bus : Byte) (s : State) (hv : validAddress a = true) :
    ∃ t, exec (.read16 bus a ptrConversion) s = .next t ∧
      (s.draw.fails = true → t.bus = .readFailed bus a ptrConversion :: s.bus ∧
        t.result = some (.err .deviceUnreachable)) ∧
      (s.draw.fails = false → t.bus = .read bus a ptrConversion s.draw.b0 s.draw.b1 :: s.bus ∧
        t.result = some (.ok (.word (joinBytes s.draw.b0 s.draw.b1)))) ∧
      t.controllers = s.controllers ∧ t.mem = s.mem ∧ t.triggers = s.triggers ∧ t.requests = s.requests ∧
      t.taken = s.taken := by
  have hr := readRefusal_conversion hv
  cases hf : s.draw.fails with
  | true => exact ⟨_, exec_read16_failed hr hf, fun _ => ⟨rfl, rfl⟩, nofun, rfl, rfl, rfl, rfl, rfl⟩
  | false => exact ⟨_, exec_read16_ok hr hf, nofun, fun _ => ⟨rfl, rfl⟩, rfl, rfl, rfl, rfl, rfl⟩

/-- Settles O30: a READ16, after a WRITECONFIG that succeeded and a wait when it is forced. -/
theorem sampleRawWritesWaitsAndReadsOnce : Obligations.SampleRawWritesWaitsAndReadsOnce := by
  intro dev c s hc hv
  constructor
  · obtain ⟨t, ht, hfailed, hread, hcs, hmem, htriggers, hrequests, htaken⟩ := exec_read16_conversion c.bus s hv
    exact ⟨t, (exec_sampleRaw_unforced hc).trans ht, hfailed, hread, State.controllerOf_congr hcs,
      State.readByte_congr hmem, State.triggerCount_congr htriggers, hrequests, htaken⟩
  · have hu := exec_writeConfig_afterConfig hc hv
    have hbus := State.afterConfig_bus (s := s) (dev := dev) (c := c)
    cases hf : s.draw.fails with
    | true =>
      have hframe := State.afterConfig_frame hc rfl rfl rfl rfl
      rw [hf] at hu hbus hframe
      exact ⟨_, _, c.word, _, _, hu, (exec_sampleRaw_writeFailed hc hv hf).trans hu, rfl, rfl, rfl,
        fun _ => ⟨hbus, rfl⟩, nofun, nofun, rfl, rfl, rfl, rfl, hframe⟩
    | false =>
      obtain ⟨t, ht, hfailed, hread, hcs, hmem, htriggers, hrequests, htaken⟩ := exec_read16_conversion c.bus
        ((s.afterConfig dev c).waits (minWait c.dr + (Config.waitMargin : Rat))) hv
      have hframe := State.afterConfig_frame hc hcs hmem htriggers hrequests
      rw [State.waits_bus, hbus] at hfailed hread
      rw [hf] at hu hfailed hread hframe
      exact ⟨_, t, c.word, _, _, hu, (exec_sampleRaw_written hc hv hf).trans ht, rfl, rfl, rfl, nofun,
        fun _ => hfailed, fun _ => hread, hcs, hmem, htriggers, htaken, hframe⟩

/-- Settles O35: an unforced sample does not look at the ghost flag. -/
theorem unforcedSampleRunsUnconfigured : Obligations.UnforcedSampleRunsUnconfigured := by
  intro dev c s hc hv _ hf
  obtain ⟨t, ht, -, hread, hcs, -⟩ := exec_read16_conversion c.bus s hv
  exact ⟨t, (exec_sampleRaw_unforced hc).trans ht, (hread hf).2, (State.controllerOf_congr hcs dev).trans hc⟩

/-! ### What an operation did on the transports -/

/-- `evs`, newest first, is what happened on the transports from `s` to `t`, with one draw for each transport call. No
event follows a failed call, and a call failed exactly if `failed`. -/
structure State.Did (s t : State) (evs : List BusEvent) (failed : Prop) : Prop where
  bus : t.bus = evs ++ s.bus
  calls : t.calls = s.calls + evs.countP BusEvent.isCall
  stub : t.stub = s.stub.drop (evs.countP BusEvent.isCall)
  failedIsNewest : evs.Pairwise fun _ older => older.failed = false
  failed_iff : failed ↔ ∃ e ∈ evs, e.failed = true

/-- Every event meets `p`, and there are at most so many reads and writes. -/
structure Traffic (p : BusEvent → Prop) (reads writes : Nat) (evs : List BusEvent) : Prop where
  all : ∀ e ∈ evs, p e
  reads_le : evs.countP BusEvent.isRead ≤ reads
  writes_le : evs.countP BusEvent.isWrite ≤ writes

/-- If the reply answers, it has added such traffic to `s`, and its only error is that of a failed call. -/
def Reply.Traces {α : Type} (s : State) (p : BusEvent → Prop) (reads writes : Nat) (r : Reply α) : Prop :=
  ∀ u x, r = .next (u, x) → (∀ e, x = .error e → e = .deviceUnreachable) ∧
    ∃ evs, s.Did u evs (x = .error .deviceUnreachable) ∧ Traffic p reads writes evs

section Traces

variable {α β : Type} {p : BusEvent → Prop} {s t u : State} {dev : Byte} {evs evs' : List BusEvent}
  {failed failed' : Prop} {reads reads' writes writes' : Nat}

theorem State.Did.nothing (hbus : t.bus = s.bus) (hcalls : t.calls = s.calls) (hstub : t.stub = s.stub)
    (hf : ¬ failed) : s.Did t [] failed where
  bus := hbus
  calls := hcalls
  stub := hstub
  failedIsNewest := .nil
  failed_iff := by simpa using hf

/-- A wait is an event and no call. -/
theorem State.Did.waits (d : Rat) (hf : ¬ failed) : s.Did (s.waits d) [.wait d] failed where
  bus := rfl
  calls := rfl
  stub := rfl
  failedIsNewest := List.pairwise_singleton _ _
  failed_iff := by simpa [BusEvent.failed] using hf

/-- A transport call is one event and takes one draw. -/
theorem State.Did.call {e : BusEvent} (he : e.isCall = true) (hbus : t.bus = e :: s.bus)
    (hcalls : t.calls = s.calls + 1) (hstub : t.stub = s.stub.tail) (hf : failed ↔ e.failed = true) :
    s.Did t [e] failed where
  bus := hbus
  calls := by simpa [he] using hcalls
  stub := by simpa [he] using hstub
  failedIsNewest := List.pairwise_singleton _ _
  failed_iff := by simpa using hf

/-- What follows touches neither the record nor the draws. -/
theorem State.Did.congr (h : s.Did t evs failed) (hbus : u.bus = t.bus) (hcalls : u.calls = t.calls)
    (hstub : u.stub = t.stub) (hf : failed' ↔ failed) : s.Did u evs failed' where
  bus := hbus.trans h.bus
  calls := hcalls.trans h.calls
  stub := hstub.trans h.stub
  failedIsNewest := h.failedIsNewest
  failed_iff := hf.trans h.failed_iff

/-- An operation goes on only if no call has failed so far. -/
theorem State.Did.trans (h : s.Did t evs failed) (hf : ¬ failed) (h' : t.Did u evs' failed') :
    s.Did u (evs' ++ evs) failed' := by
  have hnone : ∀ e ∈ evs, e.failed = false := by simpa [h.failed_iff] using hf
  refine ⟨?_, ?_, ?_, ?_, ?_⟩
  · rw [h'.bus, h.bus, List.append_assoc]
  · rw [h'.calls, h.calls, List.countP_append]
    omega
  · rw [h'.stub, h.stub, List.drop_drop, List.countP_append, Nat.add_comm]
  · exact List.pairwise_append.mpr ⟨h'.failedIsNewest, h.failedIsNewest, fun _ _ e he => hnone e he⟩
  · rw [h'.failed_iff]
    simp only [List.mem_append, or_and_right, exists_or]
    exact ⟨.inl, fun h => h.resolve_right fun ⟨e, he, hef⟩ => by simp [hnone e he] at hef⟩

theorem Traffic.nothing : Traffic p reads writes [] := ⟨nofun, Nat.zero_le _, Nat.zero_le _⟩

theorem Traffic.single {e : BusEvent} (h : p e) :
    Traffic p ([e].countP BusEvent.isRead) ([e].countP BusEvent.isWrite) [e] :=
  ⟨by simpa using h, le_rfl, le_rfl⟩

theorem Traffic.append (h : Traffic p reads writes evs) (h' : Traffic p reads' writes' evs') :
    Traffic p (reads + reads') (writes + writes') (evs' ++ evs) where
  all e he := (List.mem_append.mp he).elim (h'.all e) (h.all e)
  reads_le := by
    have := h.reads_le
    have := h'.reads_le
    rw [List.countP_append]
    omega
  writes_le := by
    have := h.writes_le
    have := h'.writes_le
    rw [List.countP_append]
    omega

theorem Traffic.mono (h : Traffic p reads writes evs) {p' : BusEvent → Prop} (hp : ∀ e, p e → p' e)
    (hr : reads ≤ reads') (hw : writes ≤ writes') : Traffic p' reads' writes' evs :=
  ⟨fun e he => hp e (h.all e he), h.reads_le.trans hr, h.writes_le.trans hw⟩

theorem Reply.Traces.ok (h : s.Did u evs False) (ht : Traffic p reads writes evs) (a : α) :
    Reply.Traces s p reads writes (.next (u, .ok a)) := by
  rintro _ _ ⟨⟩
  exact ⟨nofun, evs, h.congr rfl rfl rfl (by simp), ht⟩

theorem Reply.Traces.andThen {r : Reply α} {f : α → State → Reply β} (hr : r.Traces s p reads writes)
    (hf : ∀ a u, (f a u).Traces u p reads' writes') :
    (r.andThen f).Traces s p (reads + reads') (writes + writes') := by
  intro u x h
  obtain ⟨t, a, ht, hfa⟩ | ⟨t, e, ht, hx⟩ := Reply.andThen_next h
  · obtain ⟨-, evs, hdid, htraffic⟩ := hr _ _ ht
    obtain ⟨herr, evs', hdid', htraffic'⟩ := hf a t u x hfa
    exact ⟨herr, _, hdid.trans nofun hdid', htraffic.append htraffic'⟩
  · cases hx
    obtain ⟨herr, evs, hdid, htraffic⟩ := hr _ _ ht
    obtain rfl := herr e rfl
    exact ⟨fun _ he => by cases he; rfl, evs, hdid.congr rfl rfl rfl (by simp),
      htraffic.mono (fun _ => id) (Nat.le_add_right _ _) (Nat.le_add_right _ _)⟩

/-- What the caller sees of a failed call (60_exceptions.md R137). -/
theorem Reply.Traces.finish {r : Reply α} {v : α → Value} (hr : r.Traces s p reads writes) (h : r.finish v = .next t)
    (hreads : reads ≤ 1 := by decide) (hwrites : writes ≤ 1 := by decide) :
    ∃ evs, s.Did t evs (t.result = some (.err .deviceUnreachable)) ∧ Traffic p 1 1 evs := by
  obtain ⟨u, a, hu, rfl⟩ | ⟨u, e, hu, rfl⟩ := Reply.finish_next h
  all_goals
    obtain ⟨-, evs, hdid, htraffic⟩ := hr _ _ hu
    exact ⟨evs, hdid.congr rfl rfl rfl (by simp), htraffic.mono (fun _ => id) hreads hwrites⟩

theorem State.read16Call_traces {bus a ptr : Byte} (hfailed : p (.readFailed bus a ptr))
    (hread : ∀ b0 b1, p (.read bus a ptr b0 b1)) : (s.read16Call bus a ptr).Traces s p 1 0 := by
  intro u x h
  obtain ⟨r, -, hr⟩ | ⟨-, -, hr⟩ | ⟨-, -, b0, b1, -, hr⟩ := s.read16Call_cases bus a ptr <;> rw [hr] at h <;> cases h
  · exact ⟨fun _ he => by cases he; rfl, _, .call (e := .readFailed bus a ptr) rfl rfl rfl rfl (iff_of_true rfl rfl),
      .single hfailed⟩
  · exact ⟨nofun, _, .call (e := .read bus a ptr b0 b1) rfl rfl rfl rfl (by simp [BusEvent.failed]),
      .single (hread b0 b1)⟩

theorem State.write16Call_traces {bus a ptr : Byte} {w : Word16}
    (hp : ∀ ok, p (.write bus a ptr (hiByte w) (loByte w) ok)) : (s.write16Call bus a ptr w).Traces s p 0 1 := by
  intro u x h
  cases hr : writeRefusal a ptr with
  | some r =>
    rw [State.write16Call, hr] at h
    cases h
  | none =>
    obtain ⟨hv, rfl⟩ := register_of_writeRefusal hr
    rw [State.write16Call_config s bus w hv] at h
    cases h
    refine ⟨fun e he => ?_, _, .call rfl (s.afterWrite_bus bus a w) (s.afterWrite_calls bus a w)
      (s.afterWrite_stub bus a w) ?_, .single (hp _)⟩
    · split at he <;> cases he
      rfl
    · cases s.draw.fails <;> simp [BusEvent.failed]

/-! ### The traffic of a controller -/

section Controller

variable {c : Controller}

/-- The word of a configuration has the fixed bits of its pattern (43_controller.md R124). -/
theorem allowedFor_configWrite (c : Controller) (ok : Bool) :
    (BusEvent.write c.bus c.addr ptrConfig (hiByte c.word) (loByte c.word) ok).allowedFor c := by
  refine ⟨rfl, rfl, rfl, ?_⟩
  rw [joinBytes_hi_lo]
  exact strobeWord_encodeWord_and_fixedMask c.fields

theorem allowedFor_forcedWait (c : Controller) :
    (BusEvent.wait (minWait c.dr + (Config.waitMargin : Rat))).allowedFor c :=
  (minWait_nonneg c.dr).trans (minWait_le_forced c.dr)

/-- Only the device's transport and address matter (43_controller.md R124). -/
theorem allowedFor_congr {c' : Controller} (hbus : c'.bus = c.bus) (haddr : c'.addr = c.addr) {e : BusEvent}
    (h : e.allowedFor c') : e.allowedFor c := by
  cases e <;> simpa only [BusEvent.allowedFor, hbus, haddr] using h

theorem State.readConversion_traces (s : State) (c : Controller) :
    (s.read16Call c.bus c.addr ptrConversion).Traces s (BusEvent.allowedFor c) 1 0 :=
  State.read16Call_traces ⟨rfl, rfl, .inl rfl⟩ fun _ _ => ⟨rfl, rfl, .inl rfl⟩

theorem State.writeConfigCall_traces (hc : s.controllerOf dev = some c) :
    (s.writeConfigCall dev).Traces s (BusEvent.allowedFor c) 0 1 := by
  unfold State.writeConfigCall
  rw [State.withController_some _ hc]
  refine .andThen (reads' := 0) (writes' := 0) (State.write16Call_traces (allowedFor_configWrite c)) fun _ u => ?_
  exact .ok (.nothing (by simp) (by simp) (by simp) nofun) .nothing ()

theorem State.sampleRawCall_traces (hc : s.controllerOf dev = some c) (force : Bool) :
    (s.sampleRawCall dev force).Traces s (BusEvent.allowedFor c) 1 1 := by
  unfold State.sampleRawCall
  rw [State.withController_some _ hc]
  refine .andThen (reads := 0) (writes := 1) ?_ fun _ u => u.readConversion_traces c
  cases force
  · exact .ok (.nothing rfl rfl rfl nofun) .nothing ()
  · refine .andThen (reads' := 0) (writes' := 0) (State.writeConfigCall_traces hc) fun _ u => ?_
    exact .ok (.waits _ nofun) (.single (allowedFor_forcedWait c)) ()

theorem State.sampleVoltageCall_traces (hc : s.controllerOf dev = some c) (force : Bool) :
    (s.sampleVoltageCall dev force).Traces s (BusEvent.allowedFor c) 1 1 := by
  rw [State.sampleVoltageCall_eq force hc]
  exact .andThen (reads' := 0) (writes' := 0) (State.sampleRawCall_traces hc force) fun _ u =>
    .ok (.nothing rfl rfl rfl nofun) .nothing _

theorem State.readConfigCall_traces (hc : s.controllerOf dev = some c) :
    (s.readConfigCall dev).Traces s (BusEvent.allowedFor c) 1 0 := by
  rw [State.readConfigCall_eq hc]
  refine .andThen (reads' := 0) (writes' := 0) ?_ fun _ u => .ok (.nothing rfl rfl rfl nofun) .nothing _
  exact State.read16Call_traces ⟨rfl, rfl, .inr rfl⟩ fun _ _ => ⟨rfl, rfl, .inr rfl⟩

/-- What an operation on a controller did is that controller's traffic. -/
theorem exec_did_of_target {i : Instr} (hi : i.target = some dev) (hc : s.controllerOf dev = some c)
    (h : exec i s = .next t) :
    ∃ evs, s.Did t evs (t.result = some (.err .deviceUnreachable)) ∧ Traffic (BusEvent.allowedFor c) 1 1 evs := by
  cases i with
  | writeConfig => cases hi; exact (State.writeConfigCall_traces hc).finish h
  | sampleRaw _ force => cases hi; exact (State.sampleRawCall_traces hc force).finish h
  | sampleVoltage _ force => cases hi; exact (State.sampleVoltageCall_traces hc force).finish h
  | reconfigure _ ch gain mode dr =>
    cases hi
    have hnew := s.controllerOf_setController_same dev { c with ch := ch, gain := gain, mode := mode, dr := dr }
    obtain ⟨evs, hdid, htraffic⟩ := (State.writeConfigCall_traces hnew).finish
      ((execReconfigure_eq ch gain mode dr hc).symm.trans h)
    exact ⟨evs, { hdid with }, htraffic.mono (fun e => allowedFor_congr rfl rfl) le_rfl le_rfl⟩
  | readConfig => cases hi; exact (State.readConfigCall_traces hc).finish h
  | _ => cases hi

/-- Every operation that answers did something on the transports, or nothing. -/
theorem exec_did {i : Instr} (h : exec i s = .next t) :
    ∃ evs, s.Did t evs (t.result = some (.err .deviceUnreachable)) := by
  cases hi : i.target with
  | some dev =>
    obtain ⟨c, hc⟩ := exists_controller_of_target hi h
    obtain ⟨evs, hdid, -⟩ := exec_did_of_target hi hc h
    exact ⟨evs, hdid⟩
  | none =>
    cases i with
    | encode | decode | raw2v | fsr | sps | strobe => cases h; exact ⟨[], .nothing rfl rfl rfl nofun⟩
    | construct dev bus a ch gain mode dr =>
      by_cases hv : validAddress a = true
      · rw [exec_construct_valid hv] at h
        cases h
        exact ⟨[], .nothing rfl rfl rfl nofun⟩
      · rw [exec_construct_invalid hv] at h
        cases h
        exact ⟨[], .nothing rfl rfl rfl nofun⟩
    | read16 bus a ptr =>
      obtain ⟨evs, hdid, -⟩ := (State.read16Call_traces (p := fun _ => True) trivial fun _ _ => trivial).finish h
      exact ⟨evs, hdid⟩
    | write16 bus a ptr w =>
      obtain ⟨evs, hdid, -⟩ := (State.write16Call_traces (p := fun _ => True) fun _ => trivial).finish h
      exact ⟨evs, hdid⟩
    | wait num den => cases h; exact ⟨_, (State.Did.waits _ nofun).congr rfl rfl rfl .rfl⟩
    | _ => cases hi

end Controller

end Traces

/-- Settles O41: every event of a controller's traffic is allowed, and there are at most one read and one write. -/
theorem controllerIssuesOnlyItsThreeCalls : Obligations.ControllerIssuesOnlyItsThreeCalls := by
  intro i dev c s t hi hc h
  obtain ⟨evs, hdid, htraffic⟩ := exec_did_of_target hi hc h
  exact ⟨evs, hdid.bus, htraffic.all, htraffic.reads_le, htraffic.writes_le⟩

/-- Settles O42: an event older than another did not fail, so a failed call is the newest. -/
theorem failedCallEndsTheOperation : Obligations.FailedCallEndsTheOperation := by
  intro i s t evs h hbus
  obtain ⟨evs', hdid⟩ := exec_did h
  obtain rfl : evs = evs' := List.append_cancel_right (hbus.symm.trans hdid.bus)
  refine ⟨fun e he hfailed => ⟨?_, hdid.failed_iff.mpr ⟨e, he, hfailed⟩⟩, hdid.failed_iff.mp⟩
  cases evs with
  | nil => cases he
  | cons newest older =>
    obtain rfl | hold := List.mem_cons.mp he
    · rfl
    · rw [(List.pairwise_cons.mp hdid.failedIsNewest).1 e hold] at hfailed
      cases hfailed

/-- Settles O44: the calls among the events are the draws taken. -/
theorem oneDrawPerTransportCall : Obligations.OneDrawPerTransportCall := by
  intro i s t h
  obtain ⟨evs, hdid⟩ := exec_did h
  exact ⟨evs, hdid.bus, hdid.calls, hdid.stub⟩

/-! ### SAMPLEVOLTAGE -/

/-- Settles O31: SAMPLEVOLTAGE goes on where SAMPLERAW has a word, and an error passes unchanged. -/
theorem sampleVoltageScalesOneRawSample : Obligations.SampleVoltageScalesOneRawSample := by
  intro dev force c s hc hv
  have hvoltage : exec (.sampleVoltage dev force) s = ((s.sampleRawCall dev force).andThen fun raw s' =>
      .next (s', .ok (raw2vOf raw c.gain))).finish .vout :=
    congrArg (Reply.finish · Value.vout) (State.sampleVoltageCall_eq force hc)
  have hraw : exec (.sampleRaw dev force) s = (s.sampleRawCall dev force).finish .word := rfl
  obtain ⟨⟨u, x⟩, hu⟩ := State.sampleRawCall_answers hc hv force
  obtain ⟨herr, -⟩ := State.sampleRawCall_traces hc force u x hu
  rw [hvoltage, hraw, hu]
  cases x with
  | error e =>
    obtain rfl := herr e rfl
    exact ⟨_, _, rfl, rfl, .inl ⟨rfl, rfl⟩⟩
  | ok raw =>
    refine ⟨_, _, rfl, rfl, .inr ⟨raw, raw2vOf raw c.gain, rfl, rfl, ?_⟩⟩
    rw [raw2vOf_toInt, fsrUnit_toNat_eq_scaleK_mul, mul_assoc]

end Sys2Proof.Machine

/-! ## Errors and what stops an operation (60_exceptions.md)

The errors of every operation but CONSTRUCT are those of its transport calls, which `Reply.Traces` says once. What
stops an operation is seen before any call answers: no controller, a device address outside the valid set, or a
register the transport gives no meaning to. -/

namespace Sys2Proof.Machine

/-! ### The error of an operation -/

section Errors

variable {s t : State} {dev : Byte} {c : Controller} {i : Instr} {e : ErrorKind}

theorem Reply.Traces.error {α : Type} {p : BusEvent → Prop} {reads writes : Nat} {r : Reply α} {v : α → Value}
    (hr : r.Traces s p reads writes) (h : r.finish v = .next t) (he : t.result = some (.err e)) :
    e = .deviceUnreachable := by
  obtain ⟨u, a, -, rfl⟩ | ⟨u, e', hu, rfl⟩ := Reply.finish_next h
  · cases he
  · cases he
    exact (hr _ _ hu).1 _ rfl

/-- The errors of an operation on a controller pass unchanged from its transport calls (60_exceptions.md R133). -/
theorem exec_error_of_target (hi : i.target = some dev) (h : exec i s = .next t) (he : t.result = some (.err e)) :
    e = .deviceUnreachable := by
  obtain ⟨c, hc⟩ := exists_controller_of_target hi h
  cases i with
  | writeConfig => cases hi; exact (State.writeConfigCall_traces hc).error h he
  | sampleRaw _ force => cases hi; exact (State.sampleRawCall_traces hc force).error h he
  | sampleVoltage _ force => cases hi; exact (State.sampleVoltageCall_traces hc force).error h he
  | reconfigure _ ch gain mode dr =>
    cases hi
    have hnew := s.controllerOf_setController_same dev { c with ch := ch, gain := gain, mode := mode, dr := dr }
    exact (State.writeConfigCall_traces hnew).error ((execReconfigure_eq ch gain mode dr hc).symm.trans h) he
  | readConfig => cases hi; exact (State.readConfigCall_traces hc).error h he
  | _ => cases hi

/-- An error is that of a failed transport call, or the refused address of a CONSTRUCT, which does nothing else. -/
theorem exec_error (h : exec i s = .next t) (he : t.result = some (.err e)) :
    e = .deviceUnreachable ∨
      ∃ dev bus a ch gain mode dr, i = .construct dev bus a ch gain mode dr ∧ validAddress a = false ∧
        e = .invalidAddress a ∧ t = s.raises e := by
  cases hi : i.target with
  | some dev => exact .inl (exec_error_of_target hi h he)
  | none =>
    cases i with
    | encode | decode | raw2v | fsr | sps | strobe | wait => cases h; cases he
    | construct dev bus a ch gain mode dr =>
      by_cases hv : validAddress a = true
      · rw [exec_construct_valid hv] at h
        cases h
        cases he
      · rw [exec_construct_invalid hv] at h
        cases h
        cases he
        exact .inr ⟨dev, bus, a, ch, gain, mode, dr, rfl, by simpa using hv, rfl, rfl⟩
    | read16 bus a ptr =>
      exact .inl ((State.read16Call_traces (p := fun _ => True) trivial fun _ _ => trivial).error h he)
    | write16 bus a ptr w => exact .inl ((State.write16Call_traces (p := fun _ => True) fun _ => trivial).error h he)
    | _ => cases hi

end Errors

/-- Settles O28: of the two errors only that of CONSTRUCT carries an address. -/
theorem invalidAddressOnlyFromConstruct : Obligations.InvalidAddressOnlyFromConstruct := by
  intro i s t a h hresult
  obtain he | ⟨dev, bus, a', ch, gain, mode, dr, rfl, hv, he, ht⟩ := exec_error h hresult
  · cases he
  · cases he
    exact ⟨⟨dev, bus, ch, gain, mode, dr, rfl⟩, hv, by rw [ht]; rfl⟩

/-- Settles O43: UnknownField is neither of the two errors an operation can answer. -/
theorem unknownFieldIsNeverProduced : Obligations.UnknownFieldIsNeverProduced := by
  intro i s t h hresult
  obtain he | ⟨_, _, _, _, _, _, _, -, -, he, -⟩ := exec_error h hresult <;> cases he

/-! ### The controllers an operation does not name -/

theorem State.controllerOf_markConfigured_other {s : State} {dev other : Byte} (h : other ≠ dev) :
    (s.markConfigured dev).controllerOf other = s.controllerOf other := by
  unfold State.markConfigured
  split
  · exact State.controllerOf_setController_other _ _ h
  · rfl

/-- A controller is kept by an operation that neither acts on it nor makes it. -/
theorem controllerOf_keptBy {i : Instr} {dev : Byte} (htarget : i.target ≠ some dev)
    (hwrites : i.writesShadow ≠ some dev) (x : Option Controller) : KeptBy i fun u => u.controllerOf dev = x where
  spend h := h
  log _ h := h
  takes _ _ _ _ h := by simpa using h
  mark {_ dev'} hi h := by
    have hne : dev ≠ dev' := fun hdev => htarget (hdev ▸ hi)
    rwa [State.controllerOf_markConfigured_other hne]
  store {_ dev' _} hi _ h := by
    have hne : dev ≠ dev' := fun hdev => hwrites (hdev ▸ hi)
    rwa [State.controllerOf_setController_other _ _ hne]
  returns _ h := h
  raises _ h := h

/-- Settles O38: every update of the controllers is to the one the operation names. -/
theorem controllersAreIndependent : Obligations.ControllersAreIndependent := by
  intro i s t dev h htarget hwrites
  exact exec_keeps (controllerOf_keptBy htarget hwrites _) rfl h

/-! ### Which operations run to a result -/

theorem readRefusal_eq_none_iff {a p : Byte} :
    readRefusal a p = none ↔ validAddress a = true ∧ (p = ptrConversion ∨ p = ptrConfig) := by
  unfold readRefusal
  split_ifs <;> simp_all

theorem writeRefusal_eq_none_iff {a p : Byte} :
    writeRefusal a p = none ↔ validAddress a = true ∧ p = ptrConfig :=
  ⟨register_of_writeRefusal, fun ⟨hv, hp⟩ => hp ▸ writeRefusal_config hv⟩

/-- READ16 answers exactly on the registers the transport reads. -/
theorem exec_read16_answers_iff (bus a p : Byte) (s : State) :
    (∃ t, exec (.read16 bus a p) s = .next t) ↔ readRefusal a p = none := by
  cases hr : readRefusal a p with
  | none => exact iff_of_true ((State.read16Call_answers hr).finish _) rfl
  | some r => simp [exec_read16_refused hr]

/-- WRITE16 answers exactly on the registers the transport writes. -/
theorem exec_write16_answers_iff (bus a p : Byte) (w : Word16) (s : State) :
    (∃ t, exec (.write16 bus a p w) s = .next t) ↔ writeRefusal a p = none := by
  cases hr : writeRefusal a p with
  | none =>
    obtain ⟨hv, rfl⟩ := register_of_writeRefusal hr
    exact iff_of_true ⟨_, exec_write16_config s bus w hv⟩ rfl
  | some r => simp [exec_write16_refused hr]

section InvalidAddress

variable {s : State} {dev : Byte} {c : Controller}

theorem State.read16Call_invalidAddress {a : Byte} (hv : validAddress a = false) (bus p : Byte) :
    s.read16Call bus a p = .refused .deviceAddress := by
  simp [State.read16Call, readRefusal, hv]

theorem State.write16Call_invalidAddress {a : Byte} (hv : validAddress a = false) (bus p : Byte) (w : Word16) :
    s.write16Call bus a p w = .refused .deviceAddress := by
  simp [State.write16Call, writeRefusal, hv]

theorem State.writeConfigCall_invalidAddress (hc : s.controllerOf dev = some c) (hv : validAddress c.addr = false) :
    s.writeConfigCall dev = .refused .deviceAddress := by
  unfold State.writeConfigCall
  rw [State.withController_some _ hc, State.write16Call_invalidAddress hv, Reply.andThen_refused]

theorem State.sampleRawCall_invalidAddress (hc : s.controllerOf dev = some c) (hv : validAddress c.addr = false)
    (force : Bool) : s.sampleRawCall dev force = .refused .deviceAddress := by
  rw [State.sampleRawCall_eq force hc]
  split
  · rw [State.writeConfigCall_invalidAddress hc hv, Reply.andThen_refused]
  · exact State.read16Call_invalidAddress hv _ _

/-- Every operation on a controller begins with a transport call, which its address decides. -/
theorem exec_of_target_invalidAddress {i : Instr} (hi : i.target = some dev) (hc : s.controllerOf dev = some c)
    (hv : validAddress c.addr = false) : exec i s = .refused .deviceAddress := by
  cases i with
  | writeConfig =>
    cases hi
    change (s.writeConfigCall dev).finish _ = _
    rw [State.writeConfigCall_invalidAddress hc hv, Reply.finish_refused]
  | sampleRaw _ force =>
    cases hi
    change (s.sampleRawCall dev force).finish _ = _
    rw [State.sampleRawCall_invalidAddress hc hv, Reply.finish_refused]
  | sampleVoltage _ force =>
    cases hi
    change (s.sampleVoltageCall dev force).finish _ = _
    rw [State.sampleVoltageCall_eq force hc, State.sampleRawCall_invalidAddress hc hv, Reply.andThen_refused,
      Reply.finish_refused]
  | reconfigure _ ch gain mode dr =>
    cases hi
    have hnew := s.controllerOf_setController_same dev { c with ch := ch, gain := gain, mode := mode, dr := dr }
    refine (execReconfigure_eq ch gain mode dr hc).trans ?_
    rw [execWriteConfig, State.writeConfigCall_invalidAddress hnew hv, Reply.finish_refused]
  | readConfig =>
    cases hi
    change (s.readConfigCall dev).finish _ = _
    rw [State.readConfigCall_eq hc, State.read16Call_invalidAddress hv, Reply.andThen_refused, Reply.finish_refused]
  | _ => cases hi

/-- An operation on a controller answers exactly if the controller exists at a valid address. -/
theorem exec_answers_iff_of_target {i : Instr} (hi : i.target = some dev) :
    (∃ t, exec i s = .next t) ↔ ∃ c, s.controllerOf dev = some c ∧ validAddress c.addr = true := by
  constructor
  · rintro ⟨t, h⟩
    obtain ⟨c, hc⟩ := exists_controller_of_target hi h
    refine ⟨c, hc, ?_⟩
    by_contra hv
    rw [exec_of_target_invalidAddress hi hc (by simpa using hv)] at h
    cases h
  · rintro ⟨c, hc, hv⟩
    exact exec_answers_of_target hi hc hv

theorem runnable_of_target {i : Instr} (hi : i.target = some dev) :
    runnable i s = (s.controllerOf dev).any fun c => validAddress c.addr := by
  cases i with
  | writeConfig | sampleRaw | sampleVoltage | reconfigure | readConfig => cases hi; rfl
  | _ => cases hi

end InvalidAddress

/-- Settles O45: a controller's operation is decided by its address, a transport call by its register, and nothing
decides the others. -/
theorem everyOperationCompletesWhenRunnable : Obligations.EveryOperationCompletesWhenRunnable := by
  intro i s
  cases hi : i.target with
  | some dev => rw [runnable_of_target hi, exec_answers_iff_of_target hi, Option.any_eq_true]
  | none =>
    cases i with
    | encode | decode | raw2v | fsr | sps | strobe | wait => exact iff_of_true rfl ⟨_, rfl⟩
    | construct dev bus a ch gain mode dr =>
      refine iff_of_true rfl ?_
      by_cases hv : validAddress a = true
      · exact ⟨_, exec_construct_valid hv⟩
      · exact ⟨_, exec_construct_invalid hv⟩
    | read16 bus a p =>
      rw [exec_read16_answers_iff, readRefusal_eq_none_iff]
      simp [runnable]
    | write16 bus a p w =>
      rw [exec_write16_answers_iff, writeRefusal_eq_none_iff]
      simp [runnable]
    | _ => cases hi

end Sys2Proof.Machine

/-! ## Reset and hazards (70_reset_and_hazards.md)

What a window records is what its stretch of events holds: each write to the configuration register since the device
was certainly set converting, with the seconds waited since. A forced sample leaves a read, a wait and such a write. -/

namespace Sys2Proof.Machine

/-! ### The minimum waits -/

/-- A division that rounds up is off by less than one (70_reset_and_hazards.md R157). -/
theorem minWaitMicros_bounds (dr : DataRate) :
    1000000 ≤ minWaitMicros dr * spsOf dr ∧ minWaitMicros dr * spsOf dr < 1000000 + spsOf dr := by
  have hpos := spsOf_pos dr
  have hdiv := Nat.div_add_mod' (1000000 + spsOf dr - 1) (spsOf dr)
  have hmod := Nat.mod_lt (1000000 + spsOf dr - 1) hpos
  rw [minWaitMicros]
  omega

/-- Settles O16: the table of rates, row by row, and the rounding up of `1000000 / SPS`. -/
theorem minimumWaitsPerRate : Obligations.MinimumWaitsPerRate := by
  intro dr
  have hpos : (0 : Rat) < spsOf dr := by exact_mod_cast spsOf_pos dr
  obtain ⟨hleast, hless⟩ := minWaitMicros_bounds dr
  have hleast' : (1000000 : Rat) ≤ minWaitMicros dr * spsOf dr := by exact_mod_cast hleast
  have hless' : (minWaitMicros dr * spsOf dr : Rat) < 1000000 + spsOf dr := by exact_mod_cast hless
  refine ⟨by cases dr <;> simp [minWait], ?_, ?_⟩
  · rw [minWait, div_le_div_iff₀ hpos (by norm_num), one_mul]
    exact hleast'
  · rw [minWait, div_add_div _ _ hpos.ne' (by norm_num), div_lt_div_iff₀ (by norm_num) (by positivity)]
    linarith

/-! ### What a window records -/

/-- The seconds of an event and those of the events before it. -/
theorem waited_cons (e : BusEvent) (evs : List BusEvent) : waited (e :: evs) = waited evs + waited [e] := by
  cases e <;> simp [waited]

/-- The event `e` turns the window `v` into `v'` without opening it anew: the writes so far are older by the seconds of
`e`, and a write to the register has joined them. -/
structure Window.Extends (bus a : Byte) (v : Window) (e : BusEvent) (v' : Window) : Prop where
  older : ∀ x ∈ v.writes, (x.1 + waited [e], x.2) ∈ v'.writes
  newest : ∀ b0 b1 ok, e = .write bus a ptrConfig b0 b1 ok → (0, joinBytes b0 b1) ∈ v'.writes

section Windows

variable {bus a : Byte} {evs : List BusEvent} {e : BusEvent} {v v' : Window}

/-- An event that takes no time and writes nothing to the register extends a window by nothing. -/
theorem Window.Extends.of_writes_eq (hw : v'.writes = v.writes) (ht : waited [e] = 0)
    (hnone : ∀ b0 b1 ok, e ≠ .write bus a ptrConfig b0 b1 ok) : v.Extends bus a e v' where
  older x hx := by simpa [hw, ht] using hx
  newest b0 b1 ok he := absurd he (hnone b0 b1 ok)

theorem Window.extends_later (t : Rat) : v.Extends bus a (.wait t) (v.later t) where
  older x hx := List.mem_map.mpr ⟨x, hx, by simp⟩
  newest := nofun

theorem Window.extends_push (b0 b1 : Byte) (ok : Bool) :
    v.Extends bus a (.write bus a ptrConfig b0 b1 ok) (v.push (joinBytes b0 b1)) where
  older x hx := by simp [Window.push, waited, hx]
  newest c0 c1 ok' he := by
    cases he
    simp [Window.push]

/-- A window after an event was opened by it, by a write that succeeded and carried the strobe, or extended. -/
theorem window_cons_cases (h : window bus a (e :: evs) = some v') :
    (∃ b0 b1, e = .write bus a ptrConfig b0 b1 true ∧ (joinBytes b0 b1).getLsbD 15 = true ∧
      v'.writes = [(0, joinBytes b0 b1)]) ∨
    ∃ v, window bus a evs = some v ∧ v.Extends bus a e v' := by
  cases e with
  | wait t =>
    obtain ⟨v, hv, rfl⟩ := Option.map_eq_some_iff.mp h
    exact .inr ⟨v, hv, v.extends_later t⟩
  | write b a' p b0 b1 ok =>
    by_cases hreg : b = bus ∧ a' = a ∧ p = ptrConfig
    · obtain ⟨rfl, rfl, rfl⟩ := hreg
      by_cases hopens : ok = true ∧ (joinBytes b0 b1).getLsbD 15 = true
      · obtain ⟨rfl, hstrobe⟩ := hopens
        rw [window_write_ok _ _ _ hstrobe] at h
        cases h
        exact .inl ⟨b0, b1, rfl, hstrobe, rfl⟩
      · simp only [window, and_self, if_true, Bool.and_eq_true, if_neg hopens] at h
        obtain ⟨v, hv, rfl⟩ := Option.map_eq_some_iff.mp h
        exact .inr ⟨v, hv, v.extends_push b0 b1 ok⟩
    · rw [window, if_neg hreg] at h
      exact .inr ⟨v', h, .of_writes_eq rfl rfl fun _ _ _ he => hreg (by cases he; exact ⟨rfl, rfl, rfl⟩)⟩
  | read b a' p b0 b1 =>
    rw [window] at h
    split at h
    · obtain ⟨v, hv, rfl⟩ := Option.map_eq_some_iff.mp h
      exact .inr ⟨v, hv, .of_writes_eq rfl rfl nofun⟩
    · exact .inr ⟨v', h, .of_writes_eq rfl rfl nofun⟩
  | readFailed b a' p => exact .inr ⟨v', h, .of_writes_eq rfl rfl nofun⟩

/-- Every write to the register in the stretch `evs` is in the window, with the seconds waited since. -/
def Window.Records (bus a : Byte) (v : Window) (evs : List BusEvent) : Prop :=
  ∀ newest between b0 b1 ok, evs = newest ++ .write bus a ptrConfig b0 b1 ok :: between →
    (waited newest, joinBytes b0 b1) ∈ v.writes

theorem Window.records_singleton {b0 b1 : Byte} {ok : Bool} (h : (0, joinBytes b0 b1) ∈ v.writes) :
    v.Records bus a [.write bus a ptrConfig b0 b1 ok] := by
  intro newest between c0 c1 ok' hsplit
  obtain ⟨rfl, hsplit⟩ | ⟨_, rfl, hsplit⟩ := List.cons_eq_append_iff.mp hsplit
  · cases hsplit
    exact h
  · simp at hsplit

theorem Window.Records.extend (h : v.Records bus a evs) (hext : v.Extends bus a e v') :
    v'.Records bus a (e :: evs) := by
  intro newest between b0 b1 ok hsplit
  obtain ⟨rfl, hsplit⟩ | ⟨_, rfl, hrest⟩ := List.cons_eq_append_iff.mp hsplit
  · cases hsplit
    exact hext.newest b0 b1 ok rfl
  · rw [waited_cons]
    exact hext.older _ (h _ between b0 b1 ok hrest)

/-- A window was opened by a write that succeeded and carried the strobe, and records it and all that came later. -/
theorem exists_opening_of_window (h : window bus a evs = some v) :
    ∃ newer older b0 b1, evs = newer ++ .write bus a ptrConfig b0 b1 true :: older ∧
      (joinBytes b0 b1).getLsbD 15 = true ∧ v.Records bus a (newer ++ [.write bus a ptrConfig b0 b1 true]) := by
  induction evs generalizing v with
  | nil => cases h
  | cons e rest ih =>
    obtain ⟨b0, b1, rfl, hstrobe, hw⟩ | ⟨u, hu, hext⟩ := window_cons_cases h
    · exact ⟨[], rest, b0, b1, rfl, hstrobe, Window.records_singleton (by simp [hw])⟩
    · obtain ⟨newer, older, b0, b1, rfl, hstrobe, hrec⟩ := ih hu
      exact ⟨e :: newer, older, b0, b1, rfl, hstrobe, hrec.extend hext⟩

/-- A timely read has a window, each write of which waited long enough. -/
theorem exists_window_of_readTimely (h : readTimely bus a evs = true) :
    ∃ v, window bus a evs = some v ∧ ∀ t w, (t, w) ∈ v.writes → minWait (decodeWord w).dr ≤ t := by
  cases hv : window bus a evs with
  | none =>
    rw [readTimely_none hv] at h
    cases h
  | some v =>
    have hwait : conversionWaitMet bus a evs = true := (Bool.and_eq_true_iff.mp h).1
    rw [conversionWaitMet, hv] at hwait
    exact ⟨v, rfl, fun t w hw => of_decide_eq_true (List.all_eq_true.mp hwait (t, w) hw)⟩

end Windows

/-- Settles O56: the write that opened the window and the later ones are recorded in it, and all have waited. -/
theorem timelyReadFollowsASuccessfulWrite : Obligations.TimelyReadFollowsASuccessfulWrite := by
  intro bus a evs h
  obtain ⟨v, hv, hwait⟩ := exists_window_of_readTimely h
  obtain ⟨newer, older, b0, b1, hevs, hstrobe, hrec⟩ := exists_opening_of_window hv
  refine ⟨newer, older, b0, b1, hevs, hstrobe, hwait _ _ (hrec newer [] b0 b1 true rfl), ?_⟩
  rintro newest between c0 c1 ok rfl
  exact hwait _ _ (hrec newest _ c0 c1 ok (List.append_assoc newest _ _))

/-! ### The forced sample -/

section ForcedSample

variable {s t : State} {dev : Byte} {c : Controller} {v : Value}

/-- An operation on a controller that answers ran at a valid address. -/
theorem validAddress_of_exec_target {i : Instr} (hi : i.target = some dev) (hc : s.controllerOf dev = some c)
    (h : exec i s = .next t) : validAddress c.addr = true := by
  obtain ⟨_, hc', hv⟩ := (exec_answers_iff_of_target hi).mp ⟨t, h⟩
  cases hc.symm.trans hc'
  exact hv

/-- The events of a forced SAMPLERAW that returned `Ok`: of its courses, the one in which neither call fails. -/
theorem exec_sampleRaw_forced_bus (hc : s.controllerOf dev = some c) (h : exec (.sampleRaw dev true) s = .next t)
    (hok : t.result = some (.ok v)) :
    ∃ b0 b1, t.bus = .read c.bus c.addr ptrConversion b0 b1 :: .wait (minWait c.dr + (Config.waitMargin : Rat)) ::
      .write c.bus c.addr ptrConfig (hiByte c.word) (loByte c.word) true :: s.bus := by
  have hv := validAddress_of_exec_target rfl hc h
  obtain ⟨-, _, _, _, _, d, -, ht, rfl, rfl, -, hwriteFailed, hreadFailed, hread, -⟩ :=
    sampleRawWritesWaitsAndReadsOnce dev c s hc hv
  cases ht.symm.trans h
  cases hwrite : s.draw.fails with
  | true => cases hok.symm.trans (hwriteFailed hwrite).2
  | false =>
    cases hd : d.fails with
    | true => cases hok.symm.trans (hreadFailed hwrite hd).2
    | false => exact ⟨d.b0, d.b1, (hread hwrite hd).1⟩

/-- A SAMPLEVOLTAGE that returned `Ok` did on the transports what a SAMPLERAW that returns `Ok` does. -/
theorem exists_sampleRaw_of_sampleVoltage {force : Bool} (hc : s.controllerOf dev = some c)
    (h : exec (.sampleVoltage dev force) s = .next t) (hok : t.result = some (.ok v)) :
    ∃ u raw, exec (.sampleRaw dev force) s = .next u ∧ u.result = some (.ok (.word raw)) ∧ t.bus = u.bus := by
  have hv := validAddress_of_exec_target rfl hc h
  obtain ⟨u, _, hu, ht, hscaled⟩ := sampleVoltageScalesOneRawSample dev force c s hc hv
  cases ht.symm.trans h
  obtain ⟨herr, rfl⟩ | ⟨raw, _, hraw, rfl, -⟩ := hscaled
  · cases hok.symm.trans herr
  · exact ⟨u, raw, hu, hraw, rfl⟩

/-- A configuration's word carries the strobe in bit 15 (43_controller.md R113). -/
theorem Controller.word_getLsbD_15 (c : Controller) : c.word.getLsbD 15 = true := strobeWord_getLsbD_15 _

theorem Controller.ofCode_extractGain_word (c : Controller) : GainRange.ofCode (extractGain c.word) = c.gain :=
  congrArg Fields.gain c.decodeWord_word

theorem Controller.ofCode_extractDr_word (c : Controller) : DataRate.ofCode (extractDr c.word) = c.dr :=
  congrArg Fields.dr c.decodeWord_word

end ForcedSample

/-- Settles O47: the window holds the one write of the sample, whose word has the strobe and the stored fields. -/
theorem forcedSampleMeetsTheConversionWait : Obligations.ForcedSampleMeetsTheConversionWait := by
  intro dev c s t v i hi hc h hok
  have hstrobe : (joinBytes (hiByte c.word) (loByte c.word)).getLsbD 15 = true := by
    rw [joinBytes_hi_lo]
    exact c.word_getLsbD_15
  obtain ⟨b0, b1, hbus⟩ : ∃ b0 b1, t.bus = .read c.bus c.addr ptrConversion b0 b1 :: _ := by
    obtain rfl | rfl := hi
    · exact exec_sampleRaw_forced_bus hc h hok
    · obtain ⟨u, raw, hu, hraw, hsame⟩ := exists_sampleRaw_of_sampleVoltage hc h hok
      rw [hsame]
      exact exec_sampleRaw_forced_bus hc hu hraw
  refine ⟨b0, b1, _, hbus, readTimely_after_write _ _ _ hstrobe ?_, ?_, ?_⟩
  · rw [joinBytes_hi_lo, c.ofCode_extractDr_word]
    exact minWait_le_forced c.dr
  · simp [gainAgrees, window_write_ok _ _ _ hstrobe, Window.later, c.ofCode_extractGain_word]
  · simp [lastWriteOk]

end Sys2Proof.Machine
